-- ==== Sys2Proof/Word.lean ====
section
/-! DEFINITION. The words of the register window and the numbers of the 2460's records. -/

namespace Sys2Proof

/-- The low byte of a command word, and a byte offset of the register window. -/
abbrev Byte := BitVec 8
/-- One register of the window, one word of a record image (00_scope.md, "Host access"). -/
abbrev Word := BitVec 16
/-- A 32-bit field: two consecutive image words, or a value such as TIME or a sample. -/
abbrev Long := BitVec 32
/-- The word address on A5 to A1 (R167). -/
abbrev Addr := BitVec 5

/-- A scan entry, 0 to 63 (R1). -/
abbrev EntryNo := Fin 64
/-- A device profile, 0 to 15 (R93). -/
abbrev ProfileNo := Fin 16
/-- A lane, 0 to 3 (R109). -/
abbrev LaneNo := Fin 4
/-- A select output of a lane, 0 to 3 (R3). -/
abbrev SelectNo := Fin 4
/-- A direct-request slot, 0 to 3 (R143). -/
abbrev SlotNo := Fin 4

end Sys2Proof
end

