-- ==== Sys2Proof/Config.lean ====
section
/-! DEFINITION. What the implementation fixes, and the one value the spec leaves open. -/

namespace Sys2Proof.Config

/-- A lane queue holds at most 16 entry numbers (R116). -/
def laneQueueSize : Nat := 16
/-- The Change Queue never holds more than 32 records (R45). -/
def changeQueueSize : Nat := 32
/-- A tick interval is TICK_DIV times this many CLKIN periods (R78). -/
def tickUnit : Nat := 256
/-- A ready wait lasts at most RDY_LIMIT times this many bit periods (R102). -/
def waitUnit : Nat := 16
/-- The entry and lane snapshots hold this many words (R172). -/
def entrySnapSize : Nat := 8
/-- See `entrySnapSize`. -/
def laneSnapSize : Nat := 19

/-- FREE VALUE (log entry 12): the owner number a lane image's word 0x02 shows while the owner kind is
none. R173 gives the field a place and no value for that case. Applied to a counter in State. -/
opaque idleOwnerNumber : Nat → BitVec 6

end Sys2Proof.Config
end

