-- ==== Sys2Proof/Syntax.lean ====
section
/-! DEFINITION. The commands of the 2460: one constructor for each row of spec/opcode_table.json.
A command written to COMMAND carries its argument byte, used or not, because COMMAND reads back the
accepted word whole (R158). A lane event carries the lane and what the lane sees of its input pins in
that event (log entries 9 and 10). -/

namespace Sys2Proof

inductive Instr where
  /-- RESET# goes, or is held, low (R131, R174). -/
  | powerOnReset
  /-- RESET# returns high (R174). -/
  | resetRelease
  /-- The tick interval ends (R78). -/
  | tick
  /-- The due of an entry whose COUNTDOWN reached 0 at the tick in progress (R86). -/
  | due (entry : EntryNo)
  | startScan (arg : Byte)
  | stopScan (arg : Byte)
  | entryEnable (arg : Byte)
  | entryStop (arg : Byte)
  | entryRearm (arg : Byte)
  | laneHold (arg : Byte)
  | laneRelease (arg : Byte)
  | laneReset (arg : Byte)
  | directSubmit (arg : Byte)
  | directCancel (arg : Byte)
  | directRelease (arg : Byte)
  | queueFlush (arg : Byte)
  | softReset (arg : Byte)
  /-- A word written to COMMAND whose code is none of the thirteen (R157). -/
  | unknownCommand (word : Word)
  /-- SETUP ends (R121); `rdy` is the level of RDYn at the first look of a wait before word 0. -/
  | setupEnd (lane : LaneNo) (rdy : Bool)
  /-- The look at the end of bit period `k` of the ready wait finds ready (R122). -/
  | readyObserved (lane : LaneNo) (k : Nat)
  /-- The ready wait runs out (R122). -/
  | readyTimeout (lane : LaneNo)
  /-- The second edge of a word's last bit period (R123). `arrived` holds the bits sampled from SDIn,
  first to arrive first; `rdy` is the level of RDYn at the first look of a wait that follows at once. -/
  | wordEnd (lane : LaneNo) (arrived : List Bool) (rdy : Bool)
  /-- The word gap ends (R124); `rdy` is the level of RDYn at the first look of a wait that follows. -/
  | gapEnd (lane : LaneNo) (rdy : Bool)
  /-- HOLD ends: release of the select and delivery (R125). -/
  | holdEnd (lane : LaneNo)
  /-- DESELECT ends (R126). -/
  | deselectEnd (lane : LaneNo)
  | headInfoRead
  /-- A write to POP; the value written is not used (R59). -/
  | pop (value : Word)
  | timeHiRead
  | tickDivWrite (value : Word)
  | queueLevelWrite (value : Word)
  | ageLimitWrite (value : Word)
  | irqCauseWrite (value : Word)
  | irqEnableWrite (value : Word)
  | tableSelectWrite (value : Word)
  | tableOffsetWrite (value : Word)
  | tableDataRead
  | tableDataWrite (value : Word)
  /-- A write to a read-only or unassigned register, named by its word address (R167). -/
  | registerWrite (addr : Addr) (value : Word)
  deriving DecidableEq, Repr

end Sys2Proof
end

