-- ==== Sys2Proof/WellFormed.lean ====
section
/-! DEFINITION. Which terms of `Instr` are commands of their row. Most rows take every operand; four
do not: a word with a defined code is no UNKNOWN_COMMAND, a look has a number from 1 to the longest
wait, a word has 1 to 32 bits, and REGISTER_WRITE names no register with a row of its own. -/

namespace Sys2Proof

/-- The thirteen command codes (R169, command code table). -/
def definedCodes : List Byte :=
  [0x01, 0x02, 0x10, 0x11, 0x12, 0x20, 0x21, 0x22, 0x30, 0x31, 0x32, 0x40, 0x7F]

/-- The word addresses (byte offset / 2) of the read-only registers listed in R167: DEVICE_ID,
DEVICE_REV, STATUS, CMD_RESULT, TIME_HI, TIME_LO, HEAD_INFO to HEAD_LATEST, ERR_INFO, DIRECT_STATE,
LANE_STATE. -/
def readOnlyAddrs : List Addr :=
  [0x00, 0x01, 0x02, 0x04, 0x0A, 0x0B, 0x0C, 0x0D, 0x0E, 0x0F, 0x10, 0x11, 0x12, 0x13, 0x14, 0x15, 0x16,
   0x1B, 0x1C, 0x1D]

/-- The offsets 0x3C and 0x3E (R167). -/
def unassignedAddrs : List Addr := [0x1E, 0x1F]

/-- The term is a command of its row. -/
def Instr.wellFormed : Instr → Bool
  | .unknownCommand w => !definedCodes.contains (w.extractLsb' 8 8)
  | .readyObserved _ k => 1 ≤ k && k ≤ 255 * Config.waitUnit
  | .wordEnd _ arrived _ => 1 ≤ arrived.length && arrived.length ≤ 32
  | .registerWrite a _ => (readOnlyAddrs ++ unassignedAddrs).contains a
  | .powerOnReset | .resetRelease | .tick | .due _ => true
  | .startScan _ | .stopScan _ | .entryEnable _ | .entryStop _ | .entryRearm _ => true
  | .laneHold _ | .laneRelease _ | .laneReset _ => true
  | .directSubmit _ | .directCancel _ | .directRelease _ | .queueFlush _ | .softReset _ => true
  | .setupEnd _ _ | .readyTimeout _ | .gapEnd _ _ | .holdEnd _ | .deselectEnd _ => true
  | .headInfoRead | .pop _ | .timeHiRead | .tickDivWrite _ | .queueLevelWrite _ | .ageLimitWrite _ => true
  | .irqCauseWrite _ | .irqEnableWrite _ | .tableSelectWrite _ | .tableOffsetWrite _ => true
  | .tableDataRead | .tableDataWrite _ => true

end Sys2Proof
end

