-- ==== Sys2Proof/Decode.lean ====
section
/-! DEFINITION. The register window decode: which row a host cycle is (R157, R167, R168, R169), and the
cycle each host row is. spec/opcode_table.json gives no bits for any row; R169 gives the bits of a command
word, which `decodeTableWord` reads (log entry 22). -/

namespace Sys2Proof

/-- The registers of the map (R168); `unassigned` stands for the offsets 0x3C and 0x3E. -/
inductive Reg where
  | deviceId | deviceRev | status | command | cmdResult | irqCause | irqEnable | queueLevel
  | ageLimit | tickDiv | timeHi | timeLo | headInfo | headSeq | headCount | headOldHi
  | headOldLo | headNewHi | headNewLo | headFirstHi | headFirstLo | headLatestHi | headLatestLo | pop
  | tableSelect | tableOffset | tableData | errInfo | directState | laneState | unassigned
  deriving DecidableEq, Repr

/-- The registers in the order of the map, offset 0x00 first (R168). -/
def regMap : List Reg :=
  [.deviceId, .deviceRev, .status, .command, .cmdResult, .irqCause, .irqEnable, .queueLevel,
   .ageLimit, .tickDiv, .timeHi, .timeLo, .headInfo, .headSeq, .headCount, .headOldHi,
   .headOldLo, .headNewHi, .headNewLo, .headFirstHi, .headFirstLo, .headLatestHi, .headLatestLo, .pop,
   .tableSelect, .tableOffset, .tableData, .errInfo, .directState, .laneState, .unassigned, .unassigned]

/-- The register at a word address (R167, R168). -/
def regAt (a : Addr) : Reg := regMap.getD a.toNat .unassigned

/-- The byte offset of a word address: twice the word address (R167). -/
def byteOffset (a : Addr) : Byte := BitVec.ofNat 8 (2 * a.toNat)

/-- The word a command code and an argument make (R169: code in bits 15 to 8, argument in 7 to 0). -/
def commandWord (code arg : Byte) : Word := code ++ arg

/-- The row of a word written to COMMAND (R157, R169). -/
def commandOf (w : Word) : Instr :=
  let arg : Byte := w.extractLsb' 0 8
  match (w.extractLsb' 8 8).toNat with
  | 0x01 => .startScan arg
  | 0x02 => .stopScan arg
  | 0x10 => .entryEnable arg
  | 0x11 => .entryStop arg
  | 0x12 => .entryRearm arg
  | 0x20 => .laneHold arg
  | 0x21 => .laneRelease arg
  | 0x22 => .laneReset arg
  | 0x30 => .directSubmit arg
  | 0x31 => .directCancel arg
  | 0x32 => .directRelease arg
  | 0x40 => .queueFlush arg
  | 0x7F => .softReset arg
  | _ => .unknownCommand w

/-- A host cycle at the register window (R167). -/
inductive BusCycle where
  | read (addr : Addr)
  | write (addr : Addr) (value : Word)
  deriving DecidableEq, Repr

/-- The access that one cycle of CS#, RD# and WR# makes, `true` for a low level (R167). With CS# high there is
none, whatever the strobes do; with RD# and WR# low together the cycle is neither a read nor a write. -/
def busCycle (cs rd wr : Bool) (a : Addr) (v : Word) : Option BusCycle :=
  match cs, rd, wr with
  | true, true, false => some (.read a)
  | true, false, true => some (.write a v)
  | _, _, _ => none

/-- The row of a host write (R167, R168). -/
def decodeWrite (a : Addr) (v : Word) : Instr :=
  match regAt a with
  | .command => commandOf v
  | .irqCause => .irqCauseWrite v
  | .irqEnable => .irqEnableWrite v
  | .queueLevel => .queueLevelWrite v
  | .ageLimit => .ageLimitWrite v
  | .tickDiv => .tickDivWrite v
  | .pop => .pop v
  | .tableSelect => .tableSelectWrite v
  | .tableOffset => .tableOffsetWrite v
  | .tableData => .tableDataWrite v
  | .deviceId | .deviceRev | .status | .cmdResult | .timeHi | .timeLo | .headInfo | .headSeq
  | .headCount | .headOldHi | .headOldLo | .headNewHi | .headNewLo | .headFirstHi | .headFirstLo
  | .headLatestHi | .headLatestLo | .errInfo | .directState | .laneState | .unassigned =>
    .registerWrite a v

/-- The row of a host read; `none` for a read that changes no state (R167). -/
def decodeRead (a : Addr) : Option Instr :=
  match regAt a with
  | .headInfo => some .headInfoRead
  | .timeHi => some .timeHiRead
  | .tableData => some .tableDataRead
  | _ => none

/-- The row of a host cycle. -/
def decodeCycle : BusCycle → Option Instr
  | .read a => decodeRead a
  | .write a v => some (decodeWrite a v)

/-- The host cycle that a host row is; `none` for the events of the part itself. -/
def encodeCycle : Instr → Option BusCycle
  | .startScan a => some (.write 0x03 (commandWord 0x01 a))
  | .stopScan a => some (.write 0x03 (commandWord 0x02 a))
  | .entryEnable a => some (.write 0x03 (commandWord 0x10 a))
  | .entryStop a => some (.write 0x03 (commandWord 0x11 a))
  | .entryRearm a => some (.write 0x03 (commandWord 0x12 a))
  | .laneHold a => some (.write 0x03 (commandWord 0x20 a))
  | .laneRelease a => some (.write 0x03 (commandWord 0x21 a))
  | .laneReset a => some (.write 0x03 (commandWord 0x22 a))
  | .directSubmit a => some (.write 0x03 (commandWord 0x30 a))
  | .directCancel a => some (.write 0x03 (commandWord 0x31 a))
  | .directRelease a => some (.write 0x03 (commandWord 0x32 a))
  | .queueFlush a => some (.write 0x03 (commandWord 0x40 a))
  | .softReset a => some (.write 0x03 (commandWord 0x7F a))
  | .unknownCommand w => some (.write 0x03 w)
  | .headInfoRead => some (.read 0x0C)
  | .timeHiRead => some (.read 0x0A)
  | .tableDataRead => some (.read 0x1A)
  | .pop v => some (.write 0x17 v)
  | .tickDivWrite v => some (.write 0x09 v)
  | .queueLevelWrite v => some (.write 0x07 v)
  | .ageLimitWrite v => some (.write 0x08 v)
  | .irqCauseWrite v => some (.write 0x05 v)
  | .irqEnableWrite v => some (.write 0x06 v)
  | .tableSelectWrite v => some (.write 0x18 v)
  | .tableOffsetWrite v => some (.write 0x19 v)
  | .tableDataWrite v => some (.write 0x1A v)
  | .registerWrite a v => some (.write a v)
  | .powerOnReset | .resetRelease | .tick | .due _ => none
  | .setupEnd _ _ | .readyObserved _ _ | .readyTimeout _ | .wordEnd _ _ _ | .gapEnd _ _ => none
  | .holdEnd _ | .deselectEnd _ => none

/-- The command a 16-bit command word spells: the code in bits 15 to 8, the argument in bits 7 to 0, an undefined
code UNKNOWN_COMMAND (R157, R169). No other row is spelled by a word (log entry 22). -/
def decodeTableWord (nbits w : Nat) : Option Instr :=
  if nbits = 16 ∧ w < 2 ^ 16 then some (commandOf (BitVec.ofNat 16 w)) else none

end Sys2Proof
end

