-- ==== Sys2Proof/Machine/State.lean ====
section
/-! DEFINITION. The state of the 2460, block by block as 00_scope.md lists the blocks, and its value
after power-on. -/

namespace Sys2Proof.Machine

/-! ### Scan table (chapter 1) -/

/-- The rule by which a sample becomes a report (R6). -/
inductive ChangeMode where
  | change | delta | zone | every
  deriving DecidableEq, Repr

/-- The place of an entry in the scan cycle (R9). -/
inductive EntryState where
  | off | wait | queued | active | stopping
  deriving DecidableEq, Repr

/-- The judged health of an entry's device (R133). -/
inductive Health where
  | good | suspect | faulted
  deriving DecidableEq, Repr

/-- The cause of a failure (R133); also the CAUSE of a record (R46). -/
inductive FailCause where
  | none | readyTimeout | checkMismatch
  deriving DecidableEq, Repr

/-- A zone of a ZONE entry (R36). -/
inductive Zone where
  | none | low | mid | high
  deriving DecidableEq, Repr

/-- The report an entry owes (R61); the OVERWRITTEN mark stands beside it. -/
inductive Pending where
  | none | initial | change | fault | recover
  deriving DecidableEq, Repr

/-- The configuration part of a scan entry (R1, R2). A field whose image place can hold values outside
its range has the width of its place. -/
structure EntryConfig where
  lane : LaneNo
  select : SelectNo
  profile : ProfileNo
  mode : ChangeMode
  signed : Bool
  initialReport : Bool
  cmdCount : BitVec 3
  respCount : BitVec 3
  checkWord : BitVec 2
  fieldOffset : BitVec 6
  fieldWidth : BitVec 6
  period : Word
  phase : Word
  hyst : Word
  cmd : Vector Long 4
  fill : Long
  mask : Long
  threshA : Long
  threshB : Long
  checkMask : Long
  checkValue : Long
  deriving DecidableEq, Repr

/-- The runtime part of a scan entry (R8). -/
structure EntryRun where
  state : EntryState
  health : Health
  failRun : Nat
  lastCause : FailCause
  primed : Bool
  last : Long
  base : Long
  czone : Zone
  bzone : Zone
  pending : Pending
  overwritten : Bool
  skipFlag : Bool
  skips : Nat
  countdown : Nat
  deriving DecidableEq, Repr

structure Entry where
  cfg : EntryConfig
  run : EntryRun
  deriving DecidableEq, Repr

/-- The power-on configuration (R1). -/
def EntryConfig.powerOn : EntryConfig where
  lane := 0
  select := 0
  profile := 0
  mode := .change
  signed := false
  initialReport := false
  cmdCount := 0
  respCount := 0
  checkWord := 0
  fieldOffset := 0
  fieldWidth := 0
  period := 0
  phase := 0
  hyst := 0
  cmd := Vector.replicate 4 0
  fill := 0
  mask := 0
  threshA := 0
  threshB := 0
  checkMask := 0
  checkValue := 0

/-- The power-on runtime part (R1), which SOFT_RESET restores (R24). -/
def EntryRun.powerOn : EntryRun where
  state := .off
  health := .good
  failRun := 0
  lastCause := .none
  primed := false
  last := 0
  base := 0
  czone := .none
  bzone := .none
  pending := .none
  overwritten := false
  skipFlag := false
  skips := 0
  countdown := 0

/-! ### Profile table (chapter 5) -/

inductive BitOrder where
  | msbFirst | lsbFirst
  deriving DecidableEq, Repr

/-- The level of the ready input that means ready (R93). -/
inductive ReadyPolarity where
  | high | low
  deriving DecidableEq, Repr

/-- The profile values a lane takes at the start of a transaction (R107). -/
structure LineProfile where
  wordLen : BitVec 6
  bitOrder : BitOrder
  clockMode : Fin 4
  div : BitVec 8
  fine : BitVec 4
  setup : BitVec 5
  hold : BitVec 5
  wordGap : BitVec 8
  rdyLimit : BitVec 8
  rdyPolarity : ReadyPolarity
  readyPerWord : Bool
  deriving DecidableEq, Repr

/-- A device profile (R93). -/
structure Profile where
  line : LineProfile
  faultLimit : BitVec 4
  useCount : Nat
  deriving DecidableEq, Repr

/-- The power-on values of R93. -/
def Profile.powerOn : Profile where
  line :=
    { wordLen := 8, bitOrder := .msbFirst, clockMode := 0, div := 255, fine := 0, setup := 2, hold := 2,
      wordGap := 0, rdyLimit := 0, rdyPolarity := .high, readyPerWord := false }
  faultLimit := 3
  useCount := 0

/-! ### Lane engines (chapter 6) -/

inductive LaneMode where
  | running | holdPending | held
  deriving DecidableEq, Repr

inductive Phase where
  | idle | setup | readyWait | shift | gap | hold | deselect
  deriving DecidableEq, Repr

/-- Who owns a transaction (R109). -/
inductive Owner where
  | entry (n : EntryNo)
  | slot (k : SlotNo)
  deriving DecidableEq, Repr

/-- How a transaction came to its HOLD, which decides its outcome (R125, R127). -/
inductive Ending where
  | complete | timeout | cut
  deriving DecidableEq, Repr

/-- The transaction record (R109, R120). -/
structure Txn where
  owner : Owner
  select : SelectNo
  line : LineProfile
  /-- The number of the next word to shift, or of the word being shifted. -/
  wordNo : Nat
  words : Nat
  /-- The captured words, each its bits in the order they arrived, in capture order. -/
  captured : List (List Bool)
  /-- The number in the stream (R98) of the first bit period of the present phase; in SETUP and HOLD,
  of the next bit period to come. -/
  bitNo : Nat
  cancelMark : Bool
  /-- Set when HOLD begins. -/
  ending : Option Ending
  deriving DecidableEq, Repr

structure Lane where
  /-- Bit i for select i: 0 ACTIVE_LOW, 1 ACTIVE_HIGH (R110, R173). -/
  selPolarity : BitVec 4
  minDeselect : BitVec 8
  mode : LaneMode
  phase : Phase
  queue : List EntryNo
  streak : Nat
  txn : Option Txn
  /-- CLKIN periods of the present phase that have passed (log entry 3). -/
  elapsed : Nat
  /-- The level SCKn rests at outside the second half of a shifted bit period (R111, R120). -/
  sckRest : Bool
  /-- The level SDOn holds until it next changes (R111, R123, R125). -/
  sdoRest : Bool
  deriving DecidableEq, Repr

/-- The power-on values of R131. -/
def Lane.powerOn : Lane where
  selPolarity := 0
  minDeselect := 2
  mode := .held
  phase := .idle
  queue := []
  streak := 0
  txn := none
  elapsed := 0
  sckRest := false
  sdoRest := false

/-! ### Change Queue (chapter 3) -/

inductive RecordKind where
  | change | fault | recover
  deriving DecidableEq, Repr

/-- A change record (R46), with its four flags (R47). -/
structure Record where
  kind : RecordKind
  entry : EntryNo
  seq : Word
  initial : Bool
  skipped : Bool
  deferred : Bool
  overwritten : Bool
  count : Nat
  old : Long
  new : Long
  oldZone : Zone
  newZone : Zone
  cause : FailCause
  first : Long
  latest : Long
  deriving DecidableEq, Repr

structure ChangeQueue where
  /-- Head first (R45). -/
  records : List Record
  held : Bool
  nextSeq : Word
  level : Nat
  ageLimit : Word
  deriving DecidableEq, Repr

/-! ### Timebase and scheduler (chapter 4) -/

/-- The tick interval in progress (R78). -/
structure TickInterval where
  /-- Its length in CLKIN periods, fixed when it began. -/
  length : Nat
  /-- The CLKIN periods counted of it. -/
  count : Nat
  deriving DecidableEq, Repr

structure Scheduler where
  running : Bool
  time : Long
  tickDiv : Word
  /-- None while RESET# is low (R92). -/
  interval : Option TickInterval
  /-- The entries found due at the tick in progress and not yet handled, ascending (log entry 5). -/
  dues : List EntryNo
  deriving DecidableEq, Repr

/-! ### Direct Request Unit (chapter 8) -/

inductive SlotState where
  | free | queued | running | done | failed | cancelled
  deriving DecidableEq, Repr

inductive SlotCause where
  | none | readyTimeout | aborted
  deriving DecidableEq, Repr

/-- The request fields of a slot (R143). -/
structure SlotRequest where
  lane : LaneNo
  select : SelectNo
  profile : ProfileNo
  words : BitVec 4
  notify : Bool
  out : Vector Long 8
  deriving DecidableEq, Repr

structure Slot where
  req : SlotRequest
  state : SlotState
  cause : SlotCause
  doneCount : Nat
  order : Word
  result : Vector Long 8
  deriving DecidableEq, Repr

/-- The power-on values of R143 and R156. -/
def Slot.powerOn : Slot where
  req := { lane := 0, select := 0, profile := 0, words := 0, notify := false, out := Vector.replicate 8 0 }
  state := .free
  cause := .none
  doneCount := 0
  order := 0
  result := Vector.replicate 8 0

structure DirectUnit where
  slots : Vector Slot 4
  /-- The order counter (R143). -/
  nextOrder : Word
  /-- The submission list, oldest first (R143). -/
  waiting : List SlotNo
  deriving DecidableEq, Repr

/-! ### Command Unit and Interrupt Unit (chapter 9) -/

/-- The one command that may be in flight (R159). -/
inductive InFlight where
  | entryStop (n : EntryNo)
  | laneHold (l : LaneNo)
  | directCancel (k : SlotNo)
  deriving DecidableEq, Repr

/-- The RESULT field of CMD_RESULT (R158). -/
inductive CmdResult where
  | ok | badArg | badState | badConfig | tooLate | unknown
  deriving DecidableEq, Repr

structure CommandUnit where
  inFlight : Option InFlight
  /-- The last accepted command word (R158). -/
  command : Word
  result : CmdResult
  /-- ENDED: true for RESET, false for NONE. -/
  endedReset : Bool
  deriving DecidableEq, Repr

/-- The error codes of ERR_INFO (R165). -/
inductive ErrCode where
  | none | tableLocked | readOnly | popNotHeld | cmdBusy | badTick | badIndex
  deriving DecidableEq, Repr

structure InterruptUnit where
  cmdDone : Bool
  direct : Bool
  accessErr : Bool
  /-- IRQ_ENABLE: bit 0 QUEUE, 1 CMD_DONE, 2 DIRECT, 3 ACCESS_ERR (R164, R169). -/
  enable : BitVec 4
  errCode : ErrCode
  errOffset : Byte
  deriving DecidableEq, Repr

/-! ### Host port (chapter 10) -/

/-- The record TABLE_SELECT names (R170). -/
inductive Selection where
  | entry (n : EntryNo)
  | profile (p : ProfileNo)
  | lane (l : LaneNo)
  | slot (k : SlotNo)
  deriving DecidableEq, Repr

structure HostPort where
  select : Selection
  offset : BitVec 6
  entrySnap : Vector Word Config.entrySnapSize
  laneSnap : Vector Word Config.laneSnapSize
  timeLatch : Word
  /-- The value of the most recent read, which the part drives on D15 to D0 while CS# and RD# stay low
  (`State.dataPins`); none when the last access was a write, and after RESET# (R167, R174, log entry 11). -/
  data : Option Word
  deriving DecidableEq, Repr

/-! ### The part -/

structure State where
  entries : Vector Entry 64
  profiles : Vector Profile 16
  lanes : Vector Lane 4
  direct : DirectUnit
  sched : Scheduler
  queue : ChangeQueue
  cmd : CommandUnit
  irq : InterruptUnit
  port : HostPort
  /-- RESET# is low (R174). -/
  inReset : Bool
  /-- The commands waiting, first in, first out (log entry 1). -/
  pending : List Instr
  /-- The counter the free value is applied to (log entry 12). -/
  freeCount : Nat
  deriving DecidableEq, Repr

/-- Why the machine stops on a state. Nothing in the spec stops the part. -/
inductive Fault where
  /-- Raised by ENTRY_STOP of a STOPPING entry and by LANE_HOLD and LANE_RELEASE of a HOLD_PENDING lane when
  no command is in flight, and by HOLD_END of a transaction in HOLD whose ending is not known: states that
  R13, R19, R113 and R125 say do not arise, so no rule answers them. Safe (log entry 13). -/
  | ruledOut
  deriving DecidableEq, Repr

/-- Why a command has no meaning. -/
inductive Refusal where
  /-- No meaning is written for the row. No arm of this model answers so. Safe. -/
  | notModelled (mnemonic : String)
  /-- Raised by the events of the part itself (DUE, TICK, the lane events, RESET_RELEASE) in a state in
  which the event cannot come, such as the end of a phase the lane is not in. Safe (log entry 6). -/
  | eventNotPossible
  /-- Raised by UNKNOWN_COMMAND and REGISTER_WRITE on operands that belong to another row. Safe (log
  entry 7). -/
  | malformed
  deriving DecidableEq, Repr

/-- The part while RESET# is held low: every block at its power-on values (R1, R76, R92, R93, R131,
R143, R156, R166, R174). -/
def State.powerOn : State where
  entries := Vector.replicate 64 ⟨EntryConfig.powerOn, EntryRun.powerOn⟩
  profiles := Vector.replicate 16 Profile.powerOn
  lanes := Vector.replicate 4 Lane.powerOn
  direct := { slots := Vector.replicate 4 Slot.powerOn, nextOrder := 0, waiting := [] }
  sched := { running := false, time := 0, tickDiv := 100, interval := none, dues := [] }
  queue := { records := [], held := false, nextSeq := 0, level := 1, ageLimit := 0 }
  cmd := { inFlight := none, command := 0, result := .ok, endedReset := false }
  irq := { cmdDone := false, direct := false, accessErr := false, enable := 0, errCode := .none, errOffset := 0 }
  port :=
    { select := .entry 0, offset := 0, entrySnap := Vector.replicate _ 0, laneSnap := Vector.replicate _ 0,
      timeLatch := 0, data := none }
  inReset := true
  pending := []
  freeCount := 0

/-- The part right after reset: RESET# has returned high with every block at its power-on values, and
the first tick interval, 100 × 256 CLKIN periods, has begun (R78, R174; log entry 2). -/
def State.reset : State :=
  { State.powerOn with
    inReset := false
    sched := { State.powerOn.sched with interval := some ⟨100 * Config.tickUnit, 0⟩ } }

end Sys2Proof.Machine
end

