-- ==== Sys2Proof/Machine/Operands.lean ====
section
/-! DEFINITION. Operands: the fields of words, the halves of 32-bit fields, the numbers an argument byte
may name, and the code of every named value (R169, R173). -/

namespace Sys2Proof.Machine

/-! ### Fields of words -/

/-- The field of `len` bits from bit `lo` of a word. -/
def fieldOf (w : Word) (lo len : Nat) : BitVec len := w.extractLsb' lo len

/-- Bit `i` of a word. -/
def bitOf (w : Word) (i : Nat) : Bool := w.getLsbD i

/-- A value placed with its bit 0 at bit `lo` of a word. -/
def place (v lo : Nat) : Word := BitVec.ofNat 16 (v * 2 ^ lo)

/-- A one-bit field at bit `lo`. -/
def placeBit (b : Bool) (lo : Nat) : Word := place b.toNat lo

/-- The high word of a 32-bit field, at the lower image offset (R171). -/
def hiHalf (x : Long) : Word := x.extractLsb' 16 16

/-- The low word of a 32-bit field. -/
def loHalf (x : Long) : Word := x.extractLsb' 0 16

/-- A 32-bit field with its high word replaced; the low word keeps its value (R171). -/
def withHi (x : Long) (w : Word) : Long := w ++ loHalf x

/-- A 32-bit field with its low word replaced. -/
def withLo (x : Long) (w : Word) : Long := hiHalf x ++ w

/-- Half `i` of a run of 32-bit fields laid out as pairs, high word first (R171, R173). -/
def getHalf {n : Nat} (v : Vector Long n) (i : Nat) : Word :=
  let x := (v[i / 2]?).getD 0
  if i % 2 = 0 then hiHalf x else loHalf x

/-- Half `i` of a run of 32-bit fields, replaced. -/
def setHalf {n : Nat} (v : Vector Long n) (i : Nat) (w : Word) : Vector Long n :=
  let x := (v[i / 2]?).getD 0
  v.setIfInBounds (i / 2) (if i % 2 = 0 then withHi x w else withLo x w)

/-! ### Argument bytes (R157) -/

/-- The entry an argument names; none for 64 or more (BAD_ARG). -/
def argEntry (a : Byte) : Option EntryNo :=
  if h : a.toNat < 64 then some ⟨a.toNat, h⟩ else none

/-- The lane an argument names; none for 4 or more. -/
def argLane (a : Byte) : Option LaneNo :=
  if h : a.toNat < 4 then some ⟨a.toNat, h⟩ else none

/-- The slot an argument names; none for 4 or more. -/
def argSlot (a : Byte) : Option SlotNo :=
  if h : a.toNat < 4 then some ⟨a.toNat, h⟩ else none

/-! ### Codes of named values (R169, R173) -/

def changeModeCode : ChangeMode → Nat
  | .change => 0 | .delta => 1 | .zone => 2 | .every => 3

/-- Every two-bit value names a mode. -/
def changeModeOf (v : BitVec 2) : ChangeMode :=
  match v.toNat with
  | 0 => .change | 1 => .delta | 2 => .zone | _ => .every

def entryStateCode : EntryState → Nat
  | .off => 0 | .wait => 1 | .queued => 2 | .active => 3 | .stopping => 4

def healthCode : Health → Nat
  | .good => 0 | .suspect => 1 | .faulted => 2

def failCauseCode : FailCause → Nat
  | .none => 0 | .readyTimeout => 1 | .checkMismatch => 2

def zoneCode : Zone → Nat
  | .none => 0 | .low => 1 | .mid => 2 | .high => 3

def pendingCode : Pending → Nat
  | .none => 0 | .initial => 1 | .change => 2 | .fault => 3 | .recover => 4

/-- KIND of HEAD_INFO; EMPTY is 0. -/
def recordKindCode : RecordKind → Nat
  | .change => 1 | .fault => 2 | .recover => 3

def laneModeCode : LaneMode → Nat
  | .running => 0 | .holdPending => 1 | .held => 2

def phaseCode : Phase → Nat
  | .idle => 0 | .setup => 1 | .readyWait => 2 | .shift => 3 | .gap => 4 | .hold => 5 | .deselect => 6

def slotStateCode : SlotState → Nat
  | .free => 0 | .queued => 1 | .running => 2 | .done => 3 | .failed => 4 | .cancelled => 5

def slotCauseCode : SlotCause → Nat
  | .none => 0 | .readyTimeout => 1 | .aborted => 2

def cmdResultCode : CmdResult → Nat
  | .ok => 0 | .badArg => 1 | .badState => 2 | .badConfig => 3 | .tooLate => 4 | .unknown => 5

def errCodeCode : ErrCode → Nat
  | .none => 0 | .tableLocked => 1 | .readOnly => 2 | .popNotHeld => 3 | .cmdBusy => 4 | .badTick => 5
  | .badIndex => 6

def bitOrderOf (b : Bool) : BitOrder := if b then .lsbFirst else .msbFirst

def bitOrderCode : BitOrder → Nat
  | .msbFirst => 0 | .lsbFirst => 1

def readyPolarityOf (b : Bool) : ReadyPolarity := if b then .low else .high

def readyPolarityCode : ReadyPolarity → Nat
  | .high => 0 | .low => 1

end Sys2Proof.Machine
end

