-- ==== Sys2Proof/Machine/Ops.lean ====
section
/-! DEFINITION. The operations the blocks share: one home for each record, the access error, the command
register protocol, the end of an in-flight command, the use counts, an entry reaching OFF. -/

namespace Sys2Proof.Machine

/-- What a command answers. -/
abbrev Outcome := Host.Outcome State Fault Refusal

/-! ### The tables -/

def State.entry (s : State) (n : EntryNo) : Entry := s.entries[n.val]

def State.setEntry (s : State) (n : EntryNo) (e : Entry) : State :=
  { s with entries := s.entries.set n.val e }

/-- Changes the runtime part of one entry. -/
def State.modRun (s : State) (n : EntryNo) (f : EntryRun → EntryRun) : State :=
  s.setEntry n { s.entry n with run := f (s.entry n).run }

def State.profile (s : State) (p : ProfileNo) : Profile := s.profiles[p.val]

def State.setProfile (s : State) (p : ProfileNo) (x : Profile) : State :=
  { s with profiles := s.profiles.set p.val x }

def State.lane (s : State) (l : LaneNo) : Lane := s.lanes[l.val]

def State.setLane (s : State) (l : LaneNo) (x : Lane) : State :=
  { s with lanes := s.lanes.set l.val x }

def State.modLane (s : State) (l : LaneNo) (f : Lane → Lane) : State := s.setLane l (f (s.lane l))

def State.slot (s : State) (k : SlotNo) : Slot := s.direct.slots[k.val]

def State.setSlot (s : State) (k : SlotNo) (x : Slot) : State :=
  { s with direct := { s.direct with slots := s.direct.slots.set k.val x } }

/-- Changes every record of a table. -/
def mapTable {α : Type} {n : Nat} (f : α → α) (v : Vector α n) : Vector α n :=
  ⟨⟨v.toList.map f⟩, by simp⟩

/-- Changes the runtime part of every entry. -/
def State.mapRuns (s : State) (f : Entry → EntryRun) : State :=
  { s with entries := mapTable (fun e => { e with run := f e }) s.entries }

/-! ### Access errors (R165) -/

/-- An access that is not applied: ACCESS_ERR is set and ERR_INFO takes the code and the offset. -/
def accessError (code : ErrCode) (offset : Byte) (s : State) : State :=
  { s with irq := { s.irq with accessErr := true, errCode := code, errOffset := offset } }

/-! ### The command register protocol (R157 to R160) -/

/-- The owner's answer to a command handed to it (R157). -/
inductive CmdAnswer where
  | completed (s : State)
  | refused (r : CmdResult)
  | inFlight (f : InFlight) (s : State)
  /-- A state the rules exclude (log entry 13). -/
  | ruledOut

/-- A defined command word other than SOFT_RESET: BUSY while a command is in flight (R160), otherwise the
owner's answer (R157, R158, R159). -/
def takeCommand (code arg : Byte) (owner : State → CmdAnswer) (s : State) : Outcome :=
  match s.cmd.inFlight with
  | some _ => .next (accessError .cmdBusy 0x06 s)
  | none =>
    match owner s with
    | .completed t =>
      .next { t with cmd := { t.cmd with command := commandWord code arg, result := .ok, endedReset := false } }
    | .refused r => .next { s with cmd := { s.cmd with result := r, endedReset := false } }
    | .inFlight f t =>
      .next { t with cmd := { t.cmd with command := commandWord code arg, inFlight := some f } }
    | .ruledOut => .fault .ruledOut

/-- The completion of the in-flight command, when it is this one: CMD_RESULT is written, CMD_DONE is set
and CMD_BUSY clears (R159). -/
def completeFlight (f : InFlight) (r : CmdResult) (s : State) : State :=
  if s.cmd.inFlight = some f then
    { s with
      cmd := { s.cmd with inFlight := none, result := r, endedReset := false }
      irq := { s.irq with cmdDone := true } }
  else s

/-! ### Use counts and OFF (R105, R17) -/

/-- USE_COUNT of a profile rises by one. -/
def raiseUse (p : ProfileNo) (s : State) : State :=
  s.setProfile p { s.profile p with useCount := (s.profile p).useCount + 1 }

/-- USE_COUNT of a profile falls by one. -/
def dropUse (p : ProfileNo) (s : State) : State :=
  s.setProfile p { s.profile p with useCount := (s.profile p).useCount - 1 }

/-- Entry n reaches OFF (R17). -/
def reachOff (n : EntryNo) (s : State) : State :=
  dropUse (s.entry n).cfg.profile
    (s.modRun n fun r => { r with state := .off, pending := .none, overwritten := false })

/-- A validity test of a profile (R104). -/
def Profile.valid (p : Profile) : Bool :=
  (1 ≤ p.line.wordLen.toNat && p.line.wordLen.toNat ≤ 32) &&
  (1 ≤ p.line.setup.toNat && p.line.setup.toNat ≤ 16) &&
  (1 ≤ p.line.hold.toNat && p.line.hold.toNat ≤ 16) &&
  (1 ≤ p.faultLimit.toNat && p.faultLimit.toNat ≤ 15)

end Sys2Proof.Machine
end

