-- ==== Sys2Proof/Machine/Timing.lean ====
section
/-! DEFINITION. The units of a lane's time: half periods, bit periods, the FINE stretch, the numbered
stream (R97 to R99), the length of every phase (R100 to R102, R121 to R126), and the clock levels inside
a bit period (R96). -/

namespace Sys2Proof.Machine

/-- A half period: DIV + 1 CLKIN periods (R97). -/
def halfPeriod (line : LineProfile) : Nat := line.div.toNat + 1

/-- Bit period k stands at position ((k − 1) modulo 16) + 1 (R98). -/
def position (k : Nat) : Nat := (k - 1) % 16 + 1

/-- A bit period at position p is stretched when floor(p × FINE / 16) > floor((p − 1) × FINE / 16)
(R99). -/
def stretchedAt (fine p : Nat) : Bool := (p - 1) * fine / 16 < p * fine / 16

/-- The length of bit period k of the stream, in CLKIN periods (R97, R98). -/
def bitLength (line : LineProfile) (k : Nat) : Nat :=
  2 * halfPeriod line + (stretchedAt line.fine.toNat (position k)).toNat

/-- The length of `count` bit periods of the stream beginning with number k. -/
def streamLength (line : LineProfile) (k : Nat) : Nat → Nat
  | 0 => 0
  | count + 1 => bitLength line k + streamLength line (k + 1) count

/-- How many of `count` bit periods beginning with number k have ended after `elapsed` CLKIN periods. -/
def bitsEnded (line : LineProfile) (k elapsed : Nat) : Nat → Nat
  | 0 => 0
  | count + 1 =>
    if bitLength line k ≤ elapsed then 1 + bitsEnded line (k + 1) (elapsed - bitLength line k) count else 0

/-- The most bit periods a single ready wait lasts (R102). -/
def waitLimit (line : LineProfile) : Nat := line.rdyLimit.toNat * Config.waitUnit

/-- The length of a lane's present phase in CLKIN periods; of a ready wait, the longest it may last. -/
def Lane.phaseLength (L : Lane) : Nat :=
  match L.txn with
  | none => 0
  | some t =>
    match L.phase with
    | .idle => 0
    | .setup => t.line.setup.toNat * halfPeriod t.line
    | .hold => t.line.hold.toNat * halfPeriod t.line
    | .readyWait => streamLength t.line t.bitNo (waitLimit t.line)
    | .shift => streamLength t.line t.bitNo t.line.wordLen.toNat
    | .gap => streamLength t.line t.bitNo t.line.wordGap.toNat
    | .deselect => streamLength t.line t.bitNo L.minDeselect.toNat

/-- The ordinal, from 1, of the bit period in progress among `count` of the present phase; at the very end
of a bit period, that one (log entry 17). -/
def Lane.bitInProgress (L : Lane) (t : Txn) (count : Nat) : Nat :=
  min (bitsEnded t.line t.bitNo (L.elapsed - 1) count + 1) count

/-- The idle level of the clock: low in modes 0 and 1, high in modes 2 and 3 (R96). -/
def idleLevel (line : LineProfile) : Bool := 2 ≤ line.clockMode.val

/-- In modes 0 and 2 the output changes at the start of the bit period and the input is sampled at the
first edge; in modes 1 and 3 at the first edge and at the second (R96). -/
def outputAtStart (line : LineProfile) : Bool := line.clockMode.val % 2 == 0

/-- The CLKIN period of bit period k, counted from its start, at which the input is sampled (R96). -/
def sampleOffset (line : LineProfile) (k : Nat) : Nat :=
  if outputAtStart line then halfPeriod line else bitLength line k

/-- Bit j of a word as it is sent, j = 0 first (R95). -/
def bitSent (line : LineProfile) (w : Long) (j : Nat) : Bool :=
  match line.bitOrder with
  | .msbFirst => w.getLsbD (line.wordLen.toNat - 1 - j)
  | .lsbFirst => w.getLsbD j

/-- The last bit of a word that is sent. -/
def lastBitSent (line : LineProfile) (w : Long) : Bool := bitSent line w (line.wordLen.toNat - 1)

/-- The CLKIN periods into the bit period in progress of a word being shifted. -/
def Lane.bitOffset (L : Lane) (t : Txn) : Nat :=
  L.elapsed - streamLength t.line t.bitNo (bitsEnded t.line t.bitNo L.elapsed t.line.wordLen.toNat)

/-- A lane is inside the second half of a shifted bit period, between its two edges (R96, R97). -/
def Lane.clockActive (L : Lane) : Bool :=
  match L.txn with
  | some t =>
    L.phase == .shift && bitsEnded t.line t.bitNo L.elapsed t.line.wordLen.toNat < t.line.wordLen.toNat &&
      halfPeriod t.line ≤ L.bitOffset t
  | none => false

end Sys2Proof.Machine
end

