-- ==== Sys2Proof/Machine/Arbiter.lean ====
section
/-! DEFINITION. The start of a transaction (R120) and the lane arbiter (R117, R118). -/

namespace Sys2Proof.Machine

/-- A lane begins the transaction of the claimant it has taken (R120, R107). -/
def startTxn (l : LaneNo) (owner : Owner) (select : SelectNo) (line : LineProfile) (words : Nat) (s : State) :
    State :=
  s.modLane l fun L =>
    { L with
      phase := .setup
      elapsed := 0
      sckRest := idleLevel line
      sdoRest := false
      txn :=
        some
          { owner := owner, select := select, line := line, wordNo := 0, words := words, captured := [],
            bitNo := 1, cancelMark := false, ending := none } }

/-- The first slot of the submission list that names the lane (R117, R143). -/
def waitingSlot (l : LaneNo) (s : State) : Option SlotNo :=
  s.direct.waiting.find? fun k => (s.slot k).req.lane == l

/-- The arbiter takes a slot (R117 case 1, R148). -/
def takeSlot (l : LaneNo) (k : SlotNo) (s : State) : State :=
  let q := (s.slot k).req
  let s := { s with direct := { s.direct with waiting := s.direct.waiting.erase k } }
  let s := s.setSlot k { s.slot k with state := .running }
  let s := s.modLane l fun L => { L with streak := min 4 (L.streak + 1) }
  startTxn l (.slot k) q.select (s.profile q.profile).line q.words.toNat s

/-- The arbiter takes the head of the lane queue (R117 case 2, R11). -/
def takeEntry (l : LaneNo) (n : EntryNo) (rest : List EntryNo) (s : State) : State :=
  let c := (s.entry n).cfg
  let s := s.modLane l fun L => { L with queue := rest, streak := 0 }
  let s := s.modRun n fun r => { r with state := .active }
  startTxn l (.entry n) c.select (s.profile c.profile).line (c.cmdCount.toNat + c.respCount.toNat) s

/-- The arbiter of a lane decides, when the lane is IDLE and RUNNING (R117). -/
def arbitrate (l : LaneNo) (s : State) : State :=
  let L := s.lane l
  if L.mode = .running ∧ L.phase = .idle then
    match waitingSlot l s, L.queue with
    | some k, [] => takeSlot l k s
    | some k, n :: rest => if L.streak < 4 then takeSlot l k s else takeEntry l n rest s
    | none, n :: rest => takeEntry l n rest s
    | none, [] => s
  else s

end Sys2Proof.Machine
end

