-- ==== Sys2Proof/Machine/Reporting.lean ====
section
/-! DEFINITION. Posting to the Change Queue: fold, append, defer, and the application of the answer
(R50 to R55, R62); the change condition (R38); and the drain (R65 to R69). -/

namespace Sys2Proof.Machine

/-- A posting request (R39, R50). -/
structure Request where
  kind : RecordKind
  entry : EntryNo
  old : Long
  new : Long
  oldZone : Zone
  newZone : Zone
  cause : FailCause
  initial : Bool
  skipped : Bool
  deriving DecidableEq, Repr

/-! ### Numbers and zones -/

/-- A 32-bit value as a number, signed or unsigned per SIGNED (R35). -/
def numberOf (signed : Bool) (x : Long) : Int := if signed then x.toInt else (x.toNat : Int)

/-- The change condition (R38). -/
def changeCondition (c : EntryConfig) (r : EntryRun) : Bool :=
  match c.mode with
  | .change => r.last != r.base
  | .delta =>
    numberOf c.signed c.threshA ≤ ((numberOf c.signed r.last - numberOf c.signed r.base).natAbs : Int)
  | .zone => r.czone != r.bzone
  | .every => true

/-! ### The records -/

/-- The record a request becomes when it is appended (R53). -/
def recordOf (r : Request) (seq : Word) (time : Long) : Record where
  kind := r.kind
  entry := r.entry
  seq := seq
  initial := r.initial
  skipped := r.skipped
  deferred := false
  overwritten := false
  count := 1
  old := r.old
  new := r.new
  oldZone := r.oldZone
  newZone := r.newZone
  cause := r.cause
  first := time
  latest := time

/-- Puts a record at the tail; the next-sequence counter advances (R49, R53). -/
def appendRecord (x : Record) (s : State) : State :=
  { s with
    queue := { s.queue with records := s.queue.records ++ [x], nextSeq := s.queue.nextSeq + 1 } }

/-- The place, from the head, of the record of an entry nearest the tail (R51). -/
def newestOf (n : EntryNo) : List Record → Option Nat
  | [] => none
  | r :: rs =>
    match newestOf n rs with
    | some i => some (i + 1)
    | none => if r.entry = n then some 0 else none

/-- The record a CHANGE of the entry may be folded into: its newest, when that is a CHANGE that is not
held (R51). -/
def foldTarget (n : EntryNo) (q : ChangeQueue) : Option Nat :=
  match newestOf n q.records with
  | none => none
  | some i =>
    match q.records[i]? with
    | none => none
    | some r => if r.kind = .change ∧ ¬ (i = 0 ∧ q.held) then some i else none

/-- A fold (R52, R48). -/
def foldRecord (r : Request) (time : Long) (x : Record) : Record :=
  { x with
    new := r.new, newZone := r.newZone, count := min 255 (x.count + 1), latest := time,
    skipped := x.skipped || r.skipped, initial := x.initial || r.initial }

/-- Folds a request into the record at a place of the queue. -/
def foldAt (i : Nat) (r : Request) (s : State) : State :=
  { s with queue := { s.queue with records := s.queue.records.modify i (foldRecord r s.sched.time) } }

/-! ### The answers -/

/-- The answer "reported" applied to the entry (R40, R55). -/
def applyReported (r : Request) (s : State) : State :=
  s.modRun r.entry fun e =>
    match r.kind with
    | .change => { e with skipFlag := false, base := r.new, bzone := r.newZone }
    | .fault | .recover => { e with skipFlag := false }

/-- The column of the table of R62 a request belongs to. -/
def requestColumn (r : Request) : Pending :=
  match r.kind with
  | .change => if r.initial then .initial else .change
  | .fault => .fault
  | .recover => .recover

/-- The table of R62: the new PENDING, and whether the mark is set. The cells that do not arise leave
PENDING as it is (log entry 13). -/
def deferTable (current column : Pending) : Pending × Bool :=
  match current, column with
  | .none, q => (q, false)
  | .initial, .change => (.initial, false)
  | .initial, .fault => (.fault, true)
  | .change, .change => (.change, false)
  | .change, .fault => (.fault, true)
  | .fault, .fault => (.fault, false)
  | .fault, .recover => (.recover, true)
  | .recover, .change => (.recover, false)
  | .recover, .fault => (.fault, true)
  | p, _ => (p, false)

/-- The answer "deferred" applied to the entry (R41, R55, R62, R63). -/
def applyDeferred (r : Request) (s : State) : State :=
  s.modRun r.entry fun e =>
    let p := deferTable e.pending (requestColumn r)
    { e with pending := p.1, overwritten := e.overwritten || p.2 }

/-- Append when the queue holds fewer than 32 records, otherwise defer (R51, R54). -/
def appendOrDefer (r : Request) (s : State) : State :=
  if s.queue.records.length < Config.changeQueueSize then
    applyReported r (appendRecord (recordOf r s.queue.nextSeq s.sched.time) s)
  else applyDeferred r s

/-- A posting request, with its answer applied to the entry (R51, R54, R55). -/
def post (r : Request) (s : State) : State :=
  match r.kind with
  | .fault | .recover => appendOrDefer r s
  | .change =>
    if (s.entry r.entry).run.pending = .none then
      match foldTarget r.entry s.queue with
      | some i => applyReported r (foldAt i r s)
      | none => appendOrDefer r s
    else appendOrDefer r s

/-! ### The drain -/

/-- The record the drain posts for an entry's pending report (R66, R67). -/
def drainedRecord (n : EntryNo) (e : EntryRun) (seq : Word) (time : Long) : Record where
  kind :=
    match e.pending with
    | .fault => .fault
    | .recover => .recover
    | .none | .initial | .change => .change
  entry := n
  seq := seq
  initial := e.pending == .initial
  skipped := e.skipFlag
  deferred := true
  overwritten := e.overwritten
  count := 1
  old :=
    match e.pending with
    | .fault => if e.primed then e.last else 0
    | .none | .initial | .change | .recover => e.base
  new :=
    match e.pending with
    | .fault => 0
    | .none | .initial | .change | .recover => e.last
  oldZone :=
    match e.pending with
    | .fault => e.czone
    | .none | .initial | .change | .recover => e.bzone
  newZone :=
    match e.pending with
    | .fault => .none
    | .none | .initial | .change | .recover => e.czone
  cause :=
    match e.pending with
    | .fault => e.lastCause
    | .none | .initial | .change | .recover => .none
  first := time
  latest := time

/-- What posting its drained record does to the entry (R66, R68). -/
def afterDrain (e : EntryRun) : EntryRun :=
  match e.pending with
  | .fault => { e with pending := .none, overwritten := false, skipFlag := false }
  | .none | .initial | .change | .recover =>
    { e with pending := .none, overwritten := false, skipFlag := false, base := e.last, bzone := e.czone }

/-- A pending report is still owed at the drain: a pending CHANGE only while its condition holds (R66,
R69). -/
def stillOwed (e : Entry) : Bool :=
  match e.run.pending with
  | .change => changeCondition e.cfg e.run
  | .none | .initial | .fault | .recover => true

/-- The drain over the entries listed: the first pending report still owed is posted and ends it; one
that lapses is cleared and the drain goes on (R65, R66, R69). -/
def drainFrom : List EntryNo → State → State
  | [], s => s
  | n :: ns, s =>
    if (s.entry n).run.pending = .none then drainFrom ns s
    else if stillOwed (s.entry n) then
      (appendRecord (drainedRecord n (s.entry n).run s.queue.nextSeq s.sched.time) s).modRun n afterDrain
    else drainFrom ns (s.modRun n fun e => { e with pending := .none, overwritten := false })

/-- The drain: pending entries in ascending entry number (R65). -/
def drain (s : State) : State := drainFrom (List.finRange 64) s

end Sys2Proof.Machine
end

