-- ==== Sys2Proof/Machine/Evaluator.lean ====
section
/-! DEFINITION. The evaluator (chapter 2) and the fault logic (chapter 7), and the validity test of an
entry (R15). -/

namespace Sys2Proof.Machine

/-! ### The sample (R27 to R31) -/

/-- Bits read first to last as a number, the first the most significant. -/
def bitsValue (bits : List Bool) : Nat := bits.foldl (fun a b => 2 * a + b.toNat) 0

/-- A captured word as the number the device sent (R27, R95). -/
def wordValue (o : BitOrder) (arrived : List Bool) : Long :=
  match o with
  | .msbFirst => BitVec.ofNat 32 (bitsValue arrived)
  | .lsbFirst => BitVec.ofNat 32 (bitsValue arrived.reverse)

/-- The response string: the words joined, the first received most significant (R28). -/
def responseString (wordLen : Nat) (words : List Long) : Nat :=
  words.foldl (fun a w => a * 2 ^ wordLen + w.toNat) 0

/-- The test of response word CHECK_WORD against the check pattern (R29). -/
def checkPasses (c : EntryConfig) (words : List Long) : Bool :=
  (words[c.checkWord.toNat]?).getD 0 &&& c.checkMask == c.checkValue &&& c.checkMask

/-- The watched field of the string, masked (R30, R31). -/
def maskedField (c : EntryConfig) (string : Nat) : Nat :=
  let width := c.fieldWidth.toNat
  (string / 2 ^ c.fieldOffset.toNat % 2 ^ width) &&& (c.mask.toNat % 2 ^ width)

/-- The sample: the masked field widened to 32 bits (R31). -/
def sampleOf (c : EntryConfig) (string : Nat) : Long :=
  let field := maskedField c string
  let width := c.fieldWidth.toNat
  if c.signed && field.testBit (width - 1) then BitVec.ofInt 32 ((field : Int) - 2 ^ width)
  else BitVec.ofNat 32 field

/-! ### Zones (R36, R37) -/

/-- The plain zone of a value (R36). -/
def plainZone (c : EntryConfig) (x : Long) : Zone :=
  let v := numberOf c.signed x
  if v < numberOf c.signed c.threshA then .low
  else if numberOf c.signed c.threshB < v then .high
  else .mid

/-- The hysteretic step of CZONE (R37). A primed ZONE entry has a zone; from NONE the step gives the plain
zone (log entry 13). -/
def stepZone (c : EntryConfig) (z : Zone) (x : Long) : Zone :=
  let v := numberOf c.signed x
  let a := numberOf c.signed c.threshA
  let b := numberOf c.signed c.threshB
  match z with
  | .mid => if v < a then .low else if b < v then .high else .mid
  | .low => if b < v then .high else if a + c.hyst.toNat ≤ v then .mid else .low
  | .high => if v < a then .low else if v ≤ b - c.hyst.toNat then .mid else .high
  | .none => plainZone c x

/-- The plain zone in ZONE mode, NONE in other modes (R36). -/
def primeZone (c : EntryConfig) (x : Long) : Zone :=
  match c.mode with
  | .zone => plainZone c x
  | .change | .delta | .every => .none

/-! ### A good response (R32 to R34, R137) -/

/-- Priming (R33). -/
def prime (n : EntryNo) (x : Long) (s : State) : State :=
  let c := (s.entry n).cfg
  let z := primeZone c x
  let s := s.modRun n fun r => { r with last := x, base := x, czone := z, bzone := z, primed := true }
  if c.initialReport then
    post
      { kind := .change, entry := n, old := x, new := x, oldZone := z, newZone := z, cause := .none,
        initial := true, skipped := (s.entry n).run.skipFlag } s
  else s

/-- LAST and CZONE take the new sample (R34, steps 1 and 2). -/
def takeSample (c : EntryConfig) (x : Long) (r : EntryRun) : EntryRun :=
  { r with
    last := x
    czone :=
      match c.mode with
      | .zone => stepZone c r.czone x
      | .change | .delta | .every => .none }

/-- Judging a primed entry (R34, R39, R42). -/
def judge (n : EntryNo) (x : Long) (s : State) : State :=
  let c := (s.entry n).cfg
  let s := s.modRun n (takeSample c x)
  let r := (s.entry n).run
  if changeCondition c r then
    post
      { kind := .change, entry := n, old := r.base, new := x, oldZone := r.bzone, newZone := r.czone,
        cause := .none, initial := false, skipped := r.skipFlag } s
  else s

/-- The recovery path (R137): health, then the RECOVER request with the values before recovery, then
re-priming whatever the queue answers. -/
def recover (n : EntryNo) (x : Long) (s : State) : State :=
  let c := (s.entry n).cfg
  let z := primeZone c x
  let s := s.modRun n fun r => { r with health := .good, failRun := 0 }
  let r := (s.entry n).run
  let s :=
    post
      { kind := .recover, entry := n, old := if r.primed then r.base else 0, new := x, oldZone := r.bzone,
        newZone := z, cause := .none, initial := !r.primed, skipped := r.skipFlag } s
  s.modRun n fun r => { r with last := x, base := x, czone := z, bzone := z, primed := true }

/-- A response that has passed its check and given its sample (R32). -/
def goodResponse (n : EntryNo) (x : Long) (s : State) : State :=
  match (s.entry n).run.health with
  | .faulted => recover n x s
  | .good | .suspect =>
    let s := s.modRun n fun r => { r with failRun := 0, health := .good }
    if (s.entry n).run.primed then judge n x s else prime n x s

/-! ### A failure (R134 to R136) -/

/-- The failure run and the cause of a failure (R134). -/
def countFailure (cause : FailCause) (r : EntryRun) : EntryRun :=
  { r with failRun := min 15 (r.failRun + 1), lastCause := cause }

/-- The FAULT request of an entry (R50, R135). -/
def faultRequest (n : EntryNo) (r : EntryRun) : Request where
  kind := .fault
  entry := n
  old := if r.primed then r.last else 0
  new := 0
  oldZone := r.czone
  newZone := .none
  cause := r.lastCause
  initial := false
  skipped := r.skipFlag

/-- A failure of an entry (R134, R135, R136). -/
def failure (n : EntryNo) (cause : FailCause) (s : State) : State :=
  let limit := (s.profile (s.entry n).cfg.profile).faultLimit.toNat
  let s := s.modRun n (countFailure cause)
  let r := (s.entry n).run
  match r.health with
  | .faulted => s
  | .good | .suspect =>
    if r.failRun < limit then s.modRun n fun r => { r with health := .suspect }
    else
      let s := s.modRun n fun r => { r with health := .faulted }
      post (faultRequest n (s.entry n).run) s

/-- The evaluation of a SAMPLE delivered to an entry (R26). -/
def evaluate (n : EntryNo) (captured : List (List Bool)) (s : State) : State :=
  let c := (s.entry n).cfg
  let line := (s.profile c.profile).line
  let words := captured.map (wordValue line.bitOrder)
  if checkPasses c words then goodResponse n (sampleOf c (responseString line.wordLen.toNat words)) s
  else failure n .checkMismatch s

/-! ### The validity test (R15) -/

/-- The validity test of an entry's configuration with the profile it names (R15). -/
def EntryConfig.valid (c : EntryConfig) (p : Profile) : Bool :=
  let string := c.respCount.toNat * p.line.wordLen.toNat
  let a := numberOf c.signed c.threshA
  let b := numberOf c.signed c.threshB
  p.valid && c.cmdCount.toNat ≤ 4 && (1 ≤ c.respCount.toNat && c.respCount.toNat ≤ 4) && string ≤ 64 &&
    (1 ≤ c.fieldWidth.toNat && c.fieldWidth.toNat ≤ 32) &&
    c.fieldOffset.toNat + c.fieldWidth.toNat ≤ string && c.checkWord.toNat < c.respCount.toNat &&
    1 ≤ c.period.toNat &&
    match c.mode with
    | .change | .every => true
    | .delta => 1 ≤ a
    | .zone => a ≤ b && 2 * (c.hyst.toNat : Int) ≤ b - a

end Sys2Proof.Machine
end

