-- ==== Sys2Proof/Machine/Delivery.lean ====
section
/-! DEFINITION. The delivery of an outcome to its owner (R12, R20, R125, R149, R150, R152), the cut of a
direct transaction (R127), and the abort of a lane's work (R129). -/

namespace Sys2Proof.Machine

/-- What a lane delivers at the release of a transaction's select (R125, R129). -/
inductive TxnOutcome where
  | sample | fail | cut | aborted
  deriving DecidableEq, Repr

/-- The outcome a transaction has at the end of its HOLD (R125). -/
def Ending.outcome : Ending → TxnOutcome
  | .complete => .sample
  | .timeout => .fail
  | .cut => .cut

/-- Delivery to a scan entry: discarded in STOPPING, which then reaches OFF (R20); handled by its kind in
ACTIVE (R12). -/
def deliverEntry (n : EntryNo) (o : TxnOutcome) (captured : List (List Bool)) (s : State) : State :=
  match (s.entry n).run.state with
  | .stopping => completeFlight (.entryStop n) .ok (reachOff n s)
  | .active =>
    let s := s.modRun n fun r => { r with state := .wait }
    match o with
    | .sample => evaluate n captured s
    | .fail => failure n .readyTimeout s
    | .cut | .aborted => s
  | .off | .wait | .queued => s

/-- Stores words from RESULT word i on (R149). -/
def storeWords : Nat → List Long → Vector Long 8 → Vector Long 8
  | _, [], v => v
  | i, w :: ws, v => storeWords (i + 1) ws (v.setIfInBounds i w)

/-- A slot whose NOTIFY is 1 sets the DIRECT cause as it reaches a final state (R154). -/
def notifyDirect (notify : Bool) (s : State) : State :=
  if notify then { s with irq := { s.irq with direct := true } } else s

/-- The final state and the CAUSE an outcome gives a slot (R150). -/
def slotEnd : TxnOutcome → SlotState × SlotCause
  | .sample => (.done, .none)
  | .fail => (.failed, .readyTimeout)
  | .cut => (.cancelled, .none)
  | .aborted => (.failed, .aborted)

/-- Delivery to a RUNNING slot: words stored, final state, use count, DIRECT cause (R149, R150, R154). -/
def deliverSlot (k : SlotNo) (o : TxnOutcome) (captured : List (List Bool)) (s : State) : State :=
  let x := s.slot k
  if x.state = .running then
    let words := captured.map (wordValue (s.profile x.req.profile).line.bitOrder)
    let s :=
      s.setSlot k
        { x with
          state := (slotEnd o).1, cause := (slotEnd o).2, doneCount := words.length
          result := storeWords 0 words x.result }
    notifyDirect x.req.notify (dropUse x.req.profile s)
  else s

/-- The result a DIRECT_CANCEL in flight takes from the outcome (R152). -/
def cancelResult : TxnOutcome → CmdResult
  | .cut => .ok
  | .sample | .fail | .aborted => .tooLate

/-- Delivery at the end of HOLD (R125), which also completes a command waiting for it (R159). -/
def deliver (t : Txn) (o : TxnOutcome) (s : State) : State :=
  match t.owner with
  | .entry n => deliverEntry n o t.captured s
  | .slot k => completeFlight (.directCancel k) (cancelResult o) (deliverSlot k o t.captured s)

/-- The lane goes to HOLD (R125). -/
def toHold (e : Ending) (t : Txn) (L : Lane) : Lane :=
  { L with phase := .hold, elapsed := 0, txn := some { t with ending := some e } }

/-- The lane's action on a cancel, by its phase (R127). A bit period cut short keeps its number. -/
def cancelLane (L : Lane) : Lane :=
  match L.txn with
  | none => L
  | some t =>
    match L.phase with
    | .setup => toHold .cut t L
    | .readyWait => toHold .cut { t with bitNo := t.bitNo + L.bitInProgress t (waitLimit t.line) } L
    | .gap => toHold .cut { t with bitNo := t.bitNo + L.bitInProgress t t.line.wordGap.toNat } L
    | .shift => { L with txn := some { t with cancelMark := true } }
    | .hold | .idle | .deselect => L

/-- The lane ends IDLE and HELD with no work, as LANE_RESET leaves it (R129, R131). -/
def clearLane (L : Lane) : Lane :=
  { L with mode := .held, phase := .idle, queue := [], streak := 0, txn := none, elapsed := 0, sdoRest := false }

/-- The transaction of a lane is in flight: its select is active (R125, glossary). -/
def Lane.inFlight (L : Lane) : Bool :=
  match L.phase with
  | .setup | .readyWait | .shift | .gap | .hold => true
  | .idle | .deselect => false

/-- ABORTED delivered to the owner of the transaction in flight (R129, R13, R150). -/
def deliverAborted (L : Lane) (s : State) : State :=
  if L.inFlight then
    match L.txn with
    | some t =>
      match t.owner with
      | .entry n => deliverEntry n .aborted t.captured s
      | .slot k => deliverSlot k .aborted t.captured s
    | none => s
  else s

/-- An entry in QUEUED goes to WAIT (R13). -/
def unqueue (r : EntryRun) : EntryRun := if r.state = .queued then { r with state := .wait } else r

/-- The effects of LANE_RESET on the part, in one event (R129). -/
def resetLane (l : LaneNo) (s : State) : State :=
  let L := s.lane l
  let s := s.modLane l clearLane
  let s := s.mapRuns fun e => if e.cfg.lane = l then unqueue e.run else e.run
  deliverAborted L s

end Sys2Proof.Machine
end

