-- ==== Sys2Proof/Machine/Ticks.lean ====
section
/-! DEFINITION. The tick and its dues (R78, R84, R86 to R90), the CLKIN period that passes while no command
waits, and the frames in which every command is taken: a host access (R167) and a lane event.
A tick and its dues are one event (R84) told by two rows, TICK and DUE. TICK leaves in `sched.dues` the
entries it found due. Each DUE handles the lowest of them, and every other command is taken after all of
them: it begins with `settleDues` (log entry 5). -/

namespace Sys2Proof.Machine

/-- The tick interval that begins now, with the length TICK_DIV gives (R78). -/
def newInterval (tickDiv : Word) : TickInterval := ⟨tickDiv.toNat * Config.tickUnit, 0⟩

/-- Ticks are counted for an entry in WAIT, QUEUED and ACTIVE (R84). -/
def counted (r : EntryRun) : Bool :=
  match r.state with
  | .wait | .queued | .active => true
  | .off | .stopping => false

/-- The reload of COUNTDOWN at a due (R87). -/
def reload (e : Entry) : Nat :=
  match e.run.health with
  | .faulted => 8 * e.cfg.period.toNat
  | .good | .suspect => e.cfg.period.toNat

/-- A skipped due (R90). -/
def skipDue (r : EntryRun) : EntryRun := { r with skips := min 255 (r.skips + 1), skipFlag := true }

/-- The due of one entry: reload, then offer, overrun or skip (R86 to R90). -/
def handleDue (n : EntryNo) (s : State) : State :=
  let e := s.entry n
  match e.run.state with
  | .off | .stopping => s
  | .queued | .active => s.modRun n fun r => skipDue { r with countdown := reload e }
  | .wait =>
    if (s.lane e.cfg.lane).queue.length < Config.laneQueueSize then
      (s.modRun n fun r => { r with countdown := reload e, state := .queued }).modLane e.cfg.lane
        fun L => { L with queue := L.queue ++ [n] }
    else s.modRun n fun r => skipDue { r with countdown := reload e }

/-- After the last offer of a tick the arbiters of IDLE, RUNNING lanes decide (R86, R117). -/
def wakeArbiters (s : State) : State := (List.finRange 4).foldl (fun s l => arbitrate l s) s

/-- The rest of the tick in progress: every due not yet handled, ascending, then the arbiters (R84,
R86). Nothing when the tick is over. -/
def settleDues (s : State) : State :=
  match s.sched.dues with
  | [] => s
  | d :: ds =>
    wakeArbiters ((d :: ds).foldl (fun s n => handleDue n s) { s with sched := { s.sched with dues := [] } })

/-- TIME advances and a new interval begins (R77, R78). -/
def advanceTime (s : State) : State :=
  { s with
    sched := { s.sched with time := s.sched.time + 1, interval := some (newInterval s.sched.tickDiv) } }

/-- The COUNTDOWN of every counted entry falls by one (R84). -/
def countEntries (s : State) : State :=
  s.mapRuns fun e => if counted e.run then { e.run with countdown := e.run.countdown - 1 } else e.run

/-- The entries whose COUNTDOWN has fallen to 0 at this tick, ascending (R84, R86). -/
def findDues (s : State) : List EntryNo :=
  (List.finRange 64).filter fun n => counted (s.entry n).run && (s.entry n).run.countdown == 0

/-- The tick up to its dues (R77, R78, R80, R84). -/
def beginTick (s : State) : State :=
  let s := advanceTime s
  if s.sched.running then
    let s := countEntries s
    { s with sched := { s.sched with dues := findDues s } }
  else s

/-- A CLKIN period of the tick interval (R78); it stands at its end until TICK is taken. -/
def clockInterval (i : TickInterval) : TickInterval := { i with count := min i.length (i.count + 1) }

/-- A CLKIN period of a lane's phase; it stands at its end until the event of that end is taken. -/
def clockLane (L : Lane) : Lane := { L with elapsed := min L.phaseLength (L.elapsed + 1) }

/-- One CLKIN period passes with no event (log entry 3); none is counted while RESET# is low (R92). -/
def clockPeriod (s : State) : State :=
  if s.inReset then s
  else
    let s := settleDues s
    { s with
      sched := { s.sched with interval := s.sched.interval.map clockInterval }
      lanes := mapTable clockLane s.lanes }

/-! ### The frames of a command -/

/-- A host access: not taken while RESET# is low (R174); otherwise after the tick in progress. -/
def hostAccess (f : State → Outcome) (s : State) : Outcome :=
  if s.inReset then .next s else f (settleDues s)

/-- A host write: the part no longer drives D15 to D0 (R167, log entry 11). -/
def hostWrite (f : State → Outcome) (s : State) : Outcome :=
  hostAccess (fun s => f { s with port := { s.port with data := none } }) s

/-- A host read: the part drives the value of the event (R167). -/
def hostRead (value : State → Word) (f : State → State) (s : State) : Outcome :=
  hostAccess (fun s => let t := f s; .next { t with port := { t.port with data := some (value s) } }) s

/-- A command word written to COMMAND (R157). -/
def hostCommand (code arg : Byte) (owner : State → CmdAnswer) (s : State) : Outcome :=
  hostWrite (takeCommand code arg owner) s

/-- An event of a lane in a phase, with the transaction it runs; it cannot come in another phase or while
RESET# is low (log entry 6). -/
def laneEvent (l : LaneNo) (phase : Phase) (f : Txn → State → Outcome) (s : State) : Outcome :=
  if s.inReset then .refused .eventNotPossible
  else
    let s := settleDues s
    match (s.lane l).txn with
    | none => .refused .eventNotPossible
    | some t => if (s.lane l).phase = phase then f t s else .refused .eventNotPossible

end Sys2Proof.Machine
end

