-- ==== Sys2Proof/Machine/CommandUnit.lean ====
section
/-! DEFINITION. SOFT_RESET and UNKNOWN_COMMAND (R157, R160, R161, R162). -/

namespace Sys2Proof.Machine

/-- A slot after SOFT_RESET: the request is kept (R156). -/
def softResetSlot (x : Slot) : Slot := { Slot.powerOn with req := x.req }

/-- A lane after SOFT_RESET: the configuration is kept (R131). -/
def softResetLane (L : Lane) : Lane :=
  { Lane.powerOn with selPolarity := L.selPolarity, minDeselect := L.minDeselect }

/-- SOFT_RESET in every block, in one event (R24, R76, R92, R108, R131, R156, R161, R162, R174). The host
port is kept. -/
def softReset (arg : Byte) (s : State) : State :=
  { s with
    entries := mapTable (fun e => { e with run := EntryRun.powerOn }) s.entries
    profiles := mapTable (fun p => { p with useCount := 0 }) s.profiles
    lanes := mapTable softResetLane s.lanes
    direct := { slots := mapTable softResetSlot s.direct.slots, nextOrder := 0, waiting := [] }
    sched :=
      { s.sched with
        running := false, time := 0, interval := some (newInterval s.sched.tickDiv), dues := [] }
    queue := { s.queue with records := [], held := false, nextSeq := 0 }
    cmd :=
      { inFlight := none, command := commandWord 0x7F arg, result := .ok
        endedReset := s.cmd.inFlight.isSome }
    irq :=
      { s.irq with cmdDone := false, direct := false, accessErr := false, errCode := .none, errOffset := 0 } }

/-- SOFT_RESET, accepted whenever it is written (R161). -/
def execSoftReset (arg : Byte) (s : State) : Outcome := hostWrite (fun s => .next (softReset arg s)) s

/-- The code of a word is one of the thirteen (R157, R169). -/
def hasDefinedCode (w : Word) : Bool := commandOf w != .unknownCommand w

/-- A word with an undefined code: BUSY while a command is in flight (R160), else UNKNOWN (R157). A word
with a defined code belongs to the row of that code (log entry 7). -/
def execUnknownCommand (w : Word) (s : State) : Outcome :=
  if hasDefinedCode w then .refused .malformed
  else
    hostWrite
      (fun s =>
        match s.cmd.inFlight with
        | some _ => .next (accessError .cmdBusy 0x06 s)
        | none => .next { s with cmd := { s.cmd with result := .unknown, endedReset := false } }) s

end Sys2Proof.Machine
end

