-- ==== Sys2Proof/Machine/DirectCommands.lean ====
section
/-! DEFINITION. The slot commands: DIRECT_SUBMIT, DIRECT_CANCEL, DIRECT_RELEASE (chapter 8). -/

namespace Sys2Proof.Machine

/-- An accepted submission (R147), before the arbiter of the lane decides. -/
def submitSlot (k : SlotNo) (s : State) : State :=
  let x := s.slot k
  let s :=
    s.setSlot k
      { x with
        state := .queued, cause := .none, doneCount := 0, result := Vector.replicate 8 0
        order := s.direct.nextOrder }
  let s :=
    { s with
      direct := { s.direct with nextOrder := s.direct.nextOrder + 1, waiting := s.direct.waiting ++ [k] } }
  raiseUse x.req.profile s

/-- DIRECT_SUBMIT: the cases of R146 in their order; the lane may take the slot at once (R147). -/
def directSubmitOwner (arg : Byte) (s : State) : CmdAnswer :=
  match argSlot arg with
  | none => .refused .badArg
  | some k =>
    let q := (s.slot k).req
    if (s.slot k).state ≠ .free then .refused .badState
    else if (1 ≤ q.words.toNat ∧ q.words.toNat ≤ 8) ∧ (s.profile q.profile).valid then
      .completed (arbitrate q.lane (submitSlot k s))
    else .refused .badConfig

def execDirectSubmit (arg : Byte) (s : State) : Outcome := hostCommand 0x30 arg (directSubmitOwner arg) s

/-- A QUEUED slot is withdrawn (R151). -/
def cancelQueued (k : SlotNo) (s : State) : State :=
  let x := s.slot k
  let s := { s with direct := { s.direct with waiting := s.direct.waiting.erase k } }
  let s := s.setSlot k { x with state := .cancelled }
  notifyDirect x.req.notify (dropUse x.req.profile s)

/-- DIRECT_CANCEL by the slot's state (R151). -/
def directCancelOwner (arg : Byte) (s : State) : CmdAnswer :=
  match argSlot arg with
  | none => .refused .badArg
  | some k =>
    match (s.slot k).state with
    | .queued => .completed (cancelQueued k s)
    | .running => .inFlight (.directCancel k) (s.modLane (s.slot k).req.lane cancelLane)
    | .free | .done | .failed | .cancelled => .refused .badState

def execDirectCancel (arg : Byte) (s : State) : Outcome := hostCommand 0x31 arg (directCancelOwner arg) s

/-- DIRECT_RELEASE (R153). -/
def directReleaseOwner (arg : Byte) (s : State) : CmdAnswer :=
  match argSlot arg with
  | none => .refused .badArg
  | some k =>
    match (s.slot k).state with
    | .done | .failed | .cancelled => .completed (s.setSlot k { s.slot k with state := .free })
    | .free | .queued | .running => .refused .badState

def execDirectRelease (arg : Byte) (s : State) : Outcome := hostCommand 0x32 arg (directReleaseOwner arg) s

end Sys2Proof.Machine
end

