-- ==== Sys2Proof/Machine/Flags.lean ====
section
/-! DEFINITION. The conditions computed from state: the QUEUE condition, ANY_PENDING, CMD_BUSY, the four
causes and IRQ#. None is stored, so each agrees with its terms after every event (R75, R163, R164). -/

namespace Sys2Proof.Machine

/-- The level term of the QUEUE condition (R74). -/
def levelTerm (s : State) : Bool :=
  s.queue.level != 0 && s.queue.level ≤ s.queue.records.length

/-- The age term: TIME − FIRST of the head, modulo 2^32, is at least AGE_LIMIT (R74). -/
def ageTerm (s : State) : Bool :=
  match s.queue.records with
  | [] => false
  | r :: _ => s.queue.ageLimit != 0 && s.queue.ageLimit.toNat ≤ (s.sched.time - r.first).toNat

/-- The QUEUE condition (R74). -/
def queueCondition (s : State) : Bool := levelTerm s || ageTerm s

/-- ANY_PENDING (R61). -/
def anyPending (s : State) : Bool := s.entries.toList.any fun e => e.run.pending != .none

/-- CMD_BUSY (R159). -/
def cmdBusy (s : State) : Bool := s.cmd.inFlight.isSome

/-- The four causes in the places of IRQ_CAUSE (R163, R169). -/
def irqCauses (s : State) : Word :=
  placeBit (queueCondition s) 0 ||| placeBit s.irq.cmdDone 1 ||| placeBit s.irq.direct 2 |||
    placeBit s.irq.accessErr 3

/-- IRQ# is driven low: a cause is active and enabled; never while RESET# is low (R164). -/
def State.irqLow (s : State) : Bool :=
  !s.inReset &&
    ((queueCondition s && s.irq.enable.getLsbD 0) || (s.irq.cmdDone && s.irq.enable.getLsbD 1) ||
      (s.irq.direct && s.irq.enable.getLsbD 2) || (s.irq.accessErr && s.irq.enable.getLsbD 3))

end Sys2Proof.Machine
end

