-- ==== Sys2Proof/Machine/Images.lean ====
section
/-! DEFINITION. The record images of the table window, word by word (R173), which words are configuration,
read-only or unassigned, and what a write to a configuration word stores. -/

namespace Sys2Proof.Machine

/-- What a word of an image is to a write (R21, R106, R110, R144, R171). -/
inductive WordClass where
  | config | readOnly | unassigned
  deriving DecidableEq, Repr

/-! ### Scan entry image -/

def entryWordClass (i : Nat) : WordClass :=
  if i ≤ 0x19 then .config else if 0x20 ≤ i ∧ i ≤ 0x27 then .readOnly else .unassigned

/-- A configuration word of an entry (R173). -/
def entryConfigWord (c : EntryConfig) (i : Nat) : Word :=
  match i with
  | 0x00 =>
    place c.lane 0 ||| place c.select 2 ||| place c.profile 4 ||| place (changeModeCode c.mode) 8 |||
      placeBit c.signed 10 ||| placeBit c.initialReport 11
  | 0x01 => place c.cmdCount.toNat 0 ||| place c.respCount.toNat 4 ||| place c.checkWord.toNat 8
  | 0x02 => place c.fieldOffset.toNat 0 ||| place c.fieldWidth.toNat 8
  | 0x03 => c.period
  | 0x04 => c.phase
  | 0x05 => c.hyst
  | 0x06 | 0x07 | 0x08 | 0x09 | 0x0A | 0x0B | 0x0C | 0x0D => getHalf c.cmd (i - 0x06)
  | 0x0E => hiHalf c.fill
  | 0x0F => loHalf c.fill
  | 0x10 => hiHalf c.mask
  | 0x11 => loHalf c.mask
  | 0x12 => hiHalf c.threshA
  | 0x13 => loHalf c.threshA
  | 0x14 => hiHalf c.threshB
  | 0x15 => loHalf c.threshB
  | 0x16 => hiHalf c.checkMask
  | 0x17 => loHalf c.checkMask
  | 0x18 => hiHalf c.checkValue
  | 0x19 => loHalf c.checkValue
  | _ => 0

/-- A configuration word takes the written value, with no range test (R2, R21); bits the layout leaves
unassigned are not used (log entry 16). -/
def writeEntryConfig (i : Nat) (w : Word) (c : EntryConfig) : EntryConfig :=
  match i with
  | 0x00 =>
    { c with
      lane := (fieldOf w 0 2).toFin, select := (fieldOf w 2 2).toFin, profile := (fieldOf w 4 4).toFin
      mode := changeModeOf (fieldOf w 8 2), signed := bitOf w 10, initialReport := bitOf w 11 }
  | 0x01 => { c with cmdCount := fieldOf w 0 3, respCount := fieldOf w 4 3, checkWord := fieldOf w 8 2 }
  | 0x02 => { c with fieldOffset := fieldOf w 0 6, fieldWidth := fieldOf w 8 6 }
  | 0x03 => { c with period := w }
  | 0x04 => { c with phase := w }
  | 0x05 => { c with hyst := w }
  | 0x06 | 0x07 | 0x08 | 0x09 | 0x0A | 0x0B | 0x0C | 0x0D => { c with cmd := setHalf c.cmd (i - 0x06) w }
  | 0x0E => { c with fill := withHi c.fill w }
  | 0x0F => { c with fill := withLo c.fill w }
  | 0x10 => { c with mask := withHi c.mask w }
  | 0x11 => { c with mask := withLo c.mask w }
  | 0x12 => { c with threshA := withHi c.threshA w }
  | 0x13 => { c with threshA := withLo c.threshA w }
  | 0x14 => { c with threshB := withHi c.threshB w }
  | 0x15 => { c with threshB := withLo c.threshB w }
  | 0x16 => { c with checkMask := withHi c.checkMask w }
  | 0x17 => { c with checkMask := withLo c.checkMask w }
  | 0x18 => { c with checkValue := withHi c.checkValue w }
  | 0x19 => { c with checkValue := withLo c.checkValue w }
  | _ => c

/-- The runtime words 0x20 to 0x27 of an entry (R173). -/
def entryRuntimeWords (r : EntryRun) : Vector Word Config.entrySnapSize :=
  ⟨⟨[place (entryStateCode r.state) 0 ||| place (healthCode r.health) 4 ||| place (r.failRun % 16) 8 |||
        place (failCauseCode r.lastCause) 12 ||| placeBit r.primed 14 ||| placeBit r.skipFlag 15,
      place (pendingCode r.pending) 0 ||| placeBit r.overwritten 3 ||| place (zoneCode r.czone) 4 |||
        place (zoneCode r.bzone) 6 ||| place (r.skips % 256) 8,
      hiHalf r.last, loHalf r.last, hiHalf r.base, loHalf r.base,
      place (r.countdown / 65536 % 16) 0, place (r.countdown % 65536) 0]⟩, rfl⟩

/-! ### Profile image -/

def profileWordClass (i : Nat) : WordClass :=
  if i ≤ 0x05 then .config else if i = 0x06 then .readOnly else .unassigned

/-- A word of a profile image (R173). -/
def profileWord (p : Profile) (i : Nat) : Word :=
  match i with
  | 0x00 =>
    place p.line.wordLen.toNat 0 ||| place (bitOrderCode p.line.bitOrder) 6 ||| place p.line.clockMode 8
  | 0x01 => place p.line.div.toNat 0 ||| place p.line.fine.toNat 8
  | 0x02 => place p.line.setup.toNat 0 ||| place p.line.hold.toNat 8
  | 0x03 => place p.line.wordGap.toNat 0
  | 0x04 =>
    place p.line.rdyLimit.toNat 0 ||| place (readyPolarityCode p.line.rdyPolarity) 8 |||
      placeBit p.line.readyPerWord 9
  | 0x05 => place p.faultLimit.toNat 0
  | 0x06 => place (p.useCount % 128) 0
  | _ => 0

/-- A configuration word of a profile takes the written value (R94). -/
def writeProfileConfig (i : Nat) (w : Word) (p : Profile) : Profile :=
  match i with
  | 0x00 =>
    { p with
      line :=
        { p.line with
          wordLen := fieldOf w 0 6, bitOrder := bitOrderOf (bitOf w 6), clockMode := (fieldOf w 8 2).toFin } }
  | 0x01 => { p with line := { p.line with div := fieldOf w 0 8, fine := fieldOf w 8 4 } }
  | 0x02 => { p with line := { p.line with setup := fieldOf w 0 5, hold := fieldOf w 8 5 } }
  | 0x03 => { p with line := { p.line with wordGap := fieldOf w 0 8 } }
  | 0x04 =>
    { p with
      line :=
        { p.line with
          rdyLimit := fieldOf w 0 8, rdyPolarity := readyPolarityOf (bitOf w 8), readyPerWord := bitOf w 9 } }
  | 0x05 => { p with faultLimit := fieldOf w 0 4 }
  | _ => p

/-! ### Lane image -/

def laneWordClass (i : Nat) : WordClass :=
  if i = 0x00 then .config else if i ≤ 0x13 then .readOnly else .unassigned

/-- The configuration word 0x00 of a lane (R173). -/
def laneConfigWord (L : Lane) : Word := place L.selPolarity.toNat 0 ||| place L.minDeselect.toNat 8

/-- The configuration word of a lane takes the written value; a MIN_DESELECT of 0 is stored as 1
(R110). -/
def writeLaneConfig (w : Word) (L : Lane) : Lane :=
  { L with
    selPolarity := fieldOf w 0 4
    minDeselect := if fieldOf w 8 8 = 0 then 1 else fieldOf w 8 8 }

/-- Word 0x02 of a lane image: the owner's number and kind. With no owner the kind is 0 and the number is
the free value given (log entry 12). -/
def ownerWord (L : Lane) (free : BitVec 6) : Word :=
  match L.txn with
  | none => place free.toNat 0
  | some t =>
    match t.owner with
    | .entry n => place n 0 ||| place 1 8
    | .slot k => place k 0 ||| place 2 8

/-- Place i of the queue list: the entry number, or 0x00FF beyond the length (R109). -/
def queueListWord (L : Lane) (i : Nat) : Word :=
  match L.queue[i]? with
  | some n => place n 0
  | none => 0x00FF

/-- Words 0x01 to 0x13 of a lane image (R109, R173). -/
def laneStateWords (L : Lane) (free : BitVec 6) : Vector Word Config.laneSnapSize :=
  ⟨⟨[place (laneModeCode L.mode) 0 ||| place (phaseCode L.phase) 4 ||| place L.streak 8,
      ownerWord L free, place L.queue.length 0] ++ (List.range 16).map (queueListWord L)⟩, by
    simp [Config.laneSnapSize]⟩

/-! ### Direct slot image -/

def slotWordClass (i : Nat) : WordClass :=
  if i = 0x00 then .config
  else if i ≤ 0x02 then .readOnly
  else if i ≤ 0x07 then .unassigned
  else if i ≤ 0x17 then .config
  else if i ≤ 0x27 then .readOnly
  else .unassigned

/-- A word of a slot image (R173). -/
def slotWord (x : Slot) (i : Nat) : Word :=
  if i = 0x00 then
    place x.req.lane 0 ||| place x.req.select 2 ||| place x.req.profile 4 ||| place x.req.words.toNat 8 |||
      placeBit x.req.notify 12
  else if i = 0x01 then
    place (slotStateCode x.state) 0 ||| place (slotCauseCode x.cause) 4 ||| place x.doneCount 8
  else if i = 0x02 then x.order
  else if 0x08 ≤ i ∧ i ≤ 0x17 then getHalf x.req.out (i - 0x08)
  else if 0x18 ≤ i ∧ i ≤ 0x27 then getHalf x.result (i - 0x18)
  else 0

/-- A request word of a slot takes the written value, with no range test (R144). -/
def writeSlotRequest (i : Nat) (w : Word) (q : SlotRequest) : SlotRequest :=
  if i = 0x00 then
    { q with
      lane := (fieldOf w 0 2).toFin, select := (fieldOf w 2 2).toFin, profile := (fieldOf w 4 4).toFin
      words := fieldOf w 8 4, notify := bitOf w 12 }
  else { q with out := setHalf q.out (i - 0x08) w }

/-! ### The table window -/

/-- The size of the selected image in words (R170). -/
def imageSize : Selection → Nat
  | .entry _ => 48
  | .profile _ => 8
  | .lane _ => 24
  | .slot _ => 40

/-- The record a TABLE_SELECT value names; none for an index beyond its table (R170). -/
def selectionOf (w : Word) : Option Selection :=
  let index := (fieldOf w 0 6).toNat
  match (fieldOf w 8 2).toNat with
  | 0 => if h : index < 64 then some (.entry ⟨index, h⟩) else none
  | 1 => if h : index < 16 then some (.profile ⟨index, h⟩) else none
  | 2 => if h : index < 4 then some (.lane ⟨index, h⟩) else none
  | _ => if h : index < 4 then some (.slot ⟨index, h⟩) else none

/-- What a read of TABLE_SELECT returns (R169, R170). -/
def selectionWord : Selection → Word
  | .entry n => place n 0
  | .profile p => place p 0 ||| place 1 8
  | .lane l => place l 0 ||| place 2 8
  | .slot k => place k 0 ||| place 3 8

/-- TABLE_OFFSET after an access to TABLE_DATA: the next word, wrapping to 0 (R171). -/
def advanceOffset (s : State) : State :=
  { s with
    port :=
      { s.port with offset := BitVec.ofNat 6 ((s.port.offset.toNat + 1) % imageSize s.port.select) } }

/-- A latching read copies the record's live words into its snapshot (R172). -/
def latchSnapshot (s : State) : State :=
  match s.port.select with
  | .entry n =>
    if s.port.offset = 0x20 then
      { s with port := { s.port with entrySnap := entryRuntimeWords (s.entry n).run } }
    else s
  | .lane l =>
    if s.port.offset = 0x01 then
      { s with
        port := { s.port with laneSnap := laneStateWords (s.lane l) (Config.idleOwnerNumber s.freeCount) }
        freeCount := s.freeCount + 1 }
    else s
  | .profile _ | .slot _ => s

/-- The word a read of TABLE_DATA returns, after the latch of a latching read (R171, R172). -/
def tableWord (s : State) : Word :=
  let i := s.port.offset.toNat
  match s.port.select with
  | .entry n =>
    if 0x20 ≤ i ∧ i ≤ 0x27 then (s.port.entrySnap[i - 0x20]?).getD 0 else entryConfigWord (s.entry n).cfg i
  | .profile p => profileWord (s.profile p) i
  | .lane l =>
    if i = 0x00 then laneConfigWord (s.lane l)
    else if i ≤ 0x13 then (s.port.laneSnap[i - 0x01]?).getD 0
    else 0
  | .slot k => slotWord (s.slot k) i

/-- A write to TABLE_DATA that the owner ignores (R165, R171). -/
def ignoredWrite (code : ErrCode) (s : State) : State := accessError code 0x34 s

/-- A write to a word of an entry image (R21). -/
def writeEntryWord (n : EntryNo) (i : Nat) (w : Word) (s : State) : State :=
  match entryWordClass i with
  | .unassigned => s
  | .readOnly => ignoredWrite .readOnly s
  | .config =>
    if (s.entry n).run.state = .off then
      s.setEntry n { s.entry n with cfg := writeEntryConfig i w (s.entry n).cfg }
    else ignoredWrite .tableLocked s

/-- A write to a word of a profile image (R106). -/
def writeProfileWord (p : ProfileNo) (i : Nat) (w : Word) (s : State) : State :=
  match profileWordClass i with
  | .unassigned => s
  | .readOnly => ignoredWrite .readOnly s
  | .config =>
    if (s.profile p).useCount = 0 then s.setProfile p (writeProfileConfig i w (s.profile p))
    else ignoredWrite .tableLocked s

/-- A write to a word of a lane image (R110). -/
def writeLaneWord (l : LaneNo) (i : Nat) (w : Word) (s : State) : State :=
  match laneWordClass i with
  | .unassigned => s
  | .readOnly => ignoredWrite .readOnly s
  | .config =>
    if (s.lane l).mode = .held then s.modLane l (writeLaneConfig w) else ignoredWrite .tableLocked s

/-- A write to a word of a slot image (R144). -/
def writeSlotWord (k : SlotNo) (i : Nat) (w : Word) (s : State) : State :=
  match slotWordClass i with
  | .unassigned => s
  | .readOnly => ignoredWrite .readOnly s
  | .config =>
    if (s.slot k).state = .free then
      s.setSlot k { s.slot k with req := writeSlotRequest i w (s.slot k).req }
    else ignoredWrite .tableLocked s

/-- A write to TABLE_DATA, handed to the owner of the selected record (R171). -/
def writeTableWord (w : Word) (s : State) : State :=
  let i := s.port.offset.toNat
  match s.port.select with
  | .entry n => writeEntryWord n i w s
  | .profile p => writeProfileWord p i w s
  | .lane l => writeLaneWord l i w s
  | .slot k => writeSlotWord k i w s

end Sys2Proof.Machine
end

