-- ==== Sys2Proof/Machine/QueueCommands.lean ====
section
/-! DEFINITION. The Change Queue's rows: QUEUE_FLUSH, HEAD_INFO_READ, POP, QUEUE_LEVEL_WRITE,
AGE_LIMIT_WRITE (chapter 3). -/

namespace Sys2Proof.Machine

/-- QUEUE_FLUSH on one entry (R25). -/
def flushRun (r : EntryRun) : EntryRun :=
  let r := { r with pending := .none, overwritten := false }
  if r.state ≠ .off ∧ r.primed then { r with base := r.last, bzone := r.czone } else r

/-- QUEUE_FLUSH (R71, R25). -/
def queueFlushOwner (s : State) : CmdAnswer :=
  .completed
    ({ s with queue := { s.queue with records := [], held := false } }.mapRuns fun e => flushRun e.run)

def execQueueFlush (arg : Byte) (s : State) : Outcome := hostCommand 0x40 arg queueFlushOwner s

/-- KIND, FLAGS and ENTRY of the head in the places of HEAD_INFO; all 0 (EMPTY) with no record (R56,
R169). -/
def headInfoWord (q : ChangeQueue) : Word :=
  match q.records with
  | [] => 0
  | r :: _ =>
    place (recordKindCode r.kind) 0 ||| placeBit r.initial 4 ||| placeBit r.skipped 5 |||
      placeBit r.deferred 6 ||| placeBit r.overwritten 7 ||| place r.entry 8

/-- The opening of the head: held when there is a record (R56). -/
def openHead (s : State) : State :=
  match s.queue.records with
  | [] => s
  | _ :: _ => { s with queue := { s.queue with held := true } }

/-- A read of HEAD_INFO (R56). -/
def execHeadInfoRead (s : State) : Outcome := hostRead (fun s => headInfoWord s.queue) openHead s

/-- The head is removed and the held mark cleared (R59). -/
def removeHead (s : State) : State :=
  { s with queue := { s.queue with records := s.queue.records.tail, held := false } }

/-- A write to POP: with the mark set the head leaves and the drain runs (R59); with it clear the write is
refused (R60). The value written is not used. -/
def execPop (_v : Word) (s : State) : Outcome :=
  hostWrite
    (fun s => if s.queue.held then .next (drain (removeHead s)) else .next (accessError .popNotHeld 0x2E s)) s

/-- A write to QUEUE_LEVEL (R73). -/
def execQueueLevelWrite (v : Word) (s : State) : Outcome :=
  hostWrite (fun s => .next { s with queue := { s.queue with level := min v.toNat 32 } }) s

/-- A write to AGE_LIMIT (R73). -/
def execAgeLimitWrite (v : Word) (s : State) : Outcome :=
  hostWrite (fun s => .next { s with queue := { s.queue with ageLimit := v } }) s

end Sys2Proof.Machine
end

