-- ==== Sys2Proof/Machine/HostPort.lean ====
section
/-! DEFINITION. The interrupt registers (R163, R164), the table window (R170 to R172), writes to read-only
and unassigned registers (R167), and what a read of each register returns (R168, R169). -/

namespace Sys2Proof.Machine

/-- A write to IRQ_CAUSE clears each latched cause whose place holds 1 (R163). -/
def execIrqCauseWrite (v : Word) (s : State) : Outcome :=
  hostWrite
    (fun s =>
      .next
        { s with
          irq :=
            { s.irq with
              cmdDone := s.irq.cmdDone && !bitOf v 1
              direct := s.irq.direct && !bitOf v 2
              accessErr := s.irq.accessErr && !bitOf v 3 } }) s

/-- A write to IRQ_ENABLE stores the four enables (R164, log entry 14). -/
def execIrqEnableWrite (v : Word) (s : State) : Outcome :=
  hostWrite (fun s => .next { s with irq := { s.irq with enable := fieldOf v 0 4 } }) s

/-- A write to TABLE_SELECT (R170). -/
def execTableSelectWrite (v : Word) (s : State) : Outcome :=
  hostWrite
    (fun s =>
      match selectionOf v with
      | some x => .next { s with port := { s.port with select := x, offset := 0 } }
      | none => .next (accessError .badIndex 0x30 s)) s

/-- A write to TABLE_OFFSET stores the offset field modulo the image size (R171). -/
def execTableOffsetWrite (v : Word) (s : State) : Outcome :=
  hostWrite
    (fun s =>
      .next
        { s with
          port :=
            { s.port with
              offset := BitVec.ofNat 6 ((fieldOf v 0 6).toNat % imageSize s.port.select) } }) s

/-- A read of TABLE_DATA: the latch of a latching read, the word, the advance (R171, R172). -/
def execTableDataRead (s : State) : Outcome :=
  hostRead (fun s => tableWord (latchSnapshot s)) (fun s => advanceOffset (latchSnapshot s)) s

/-- A write to TABLE_DATA: applied or ignored by the owner; the offset advances in both cases (R171). -/
def execTableDataWrite (v : Word) (s : State) : Outcome :=
  hostWrite (fun s => .next (advanceOffset (writeTableWord v s))) s

/-- A write to a read-only register is ignored with READ_ONLY; to an unassigned offset, without error
(R167, R165). Other registers have rows of their own (log entry 7). -/
def execRegisterWrite (a : Addr) (v : Word) (s : State) : Outcome :=
  if decodeWrite a v = .registerWrite a v then
    hostWrite
      (fun s =>
        match regAt a with
        | .unassigned => .next s
        | _ => .next (accessError .readOnly (byteOffset a) s)) s
  else .refused .malformed

/-! ### Reads -/

/-- STATUS (R169). -/
def statusWord (s : State) : Word :=
  placeBit s.sched.running 0 ||| placeBit (cmdBusy s) 1 ||| placeBit s.queue.held 2 |||
    placeBit (anyPending s) 3 ||| place s.queue.records.length 8

/-- A field of the held record; 0 while the held mark is clear (R57). -/
def heldField (s : State) (f : Record → Word) : Word :=
  match s.queue.held, s.queue.records with
  | true, r :: _ => f r
  | _, _ => 0

/-- HEAD_COUNT (R169). -/
def headCountWord (r : Record) : Word :=
  place r.count 0 ||| place (zoneCode r.oldZone) 8 ||| place (zoneCode r.newZone) 10 |||
    place (failCauseCode r.cause) 12

/-- DIRECT_STATE (R169). -/
def directStateWord (s : State) : Word :=
  (List.finRange 4).foldl (fun w k => w ||| place (slotStateCode (s.slot k).state) (4 * k)) 0

/-- LANE_STATE (R169). -/
def laneStateWord (s : State) : Word :=
  (List.finRange 4).foldl
    (fun w l =>
      w ||| place (laneModeCode (s.lane l).mode) (4 * l) ||| placeBit ((s.lane l).phase != .idle) (4 * l + 2)) 0

/-- The value of each register in a state between events (R168, R169). HEAD_INFO and TABLE_DATA show
what a read would return. -/
def registerValue (s : State) : Reg → Word
  | .deviceId => 0x2460
  | .deviceRev => 0x0003
  | .status => statusWord s
  | .command => s.cmd.command
  | .cmdResult => place (cmdResultCode s.cmd.result) 0 ||| placeBit s.cmd.endedReset 8
  | .irqCause => irqCauses s
  | .irqEnable => place s.irq.enable.toNat 0
  | .queueLevel => place s.queue.level 0
  | .ageLimit => s.queue.ageLimit
  | .tickDiv => s.sched.tickDiv
  | .timeHi => hiHalf s.sched.time
  | .timeLo => s.port.timeLatch
  | .headInfo => headInfoWord s.queue
  | .headSeq => heldField s fun r => r.seq
  | .headCount => heldField s headCountWord
  | .headOldHi => heldField s fun r => hiHalf r.old
  | .headOldLo => heldField s fun r => loHalf r.old
  | .headNewHi => heldField s fun r => hiHalf r.new
  | .headNewLo => heldField s fun r => loHalf r.new
  | .headFirstHi => heldField s fun r => hiHalf r.first
  | .headFirstLo => heldField s fun r => loHalf r.first
  | .headLatestHi => heldField s fun r => hiHalf r.latest
  | .headLatestLo => heldField s fun r => loHalf r.latest
  | .pop => 0
  | .tableSelect => selectionWord s.port.select
  | .tableOffset => place s.port.offset.toNat 0
  | .tableData => tableWord (latchSnapshot s)
  | .errInfo => place s.irq.errOffset.toNat 0 ||| place (errCodeCode s.irq.errCode) 8
  | .directState => directStateWord s
  | .laneState => laneStateWord s
  | .unassigned => 0

/-- What the part drives on D15 to D0 for a read of a register; none while RESET# is low (R167, R174). -/
def readRegister (s : State) (a : Addr) : Option Word :=
  if s.inReset then none else some (registerValue (settleDues s) (regAt a))

/-- A read of a register whose read has no row: the part drives the value of the event and nothing else changes
(R167, log entry 24). -/
def plainRead (a : Addr) (s : State) : Outcome :=
  hostRead (fun s => registerValue s (regAt a)) (fun s => s) s

/-- The levels on D15 to D0 that the part drives, for levels of CS#, RD# and WR# (`true` for low): the value of the
read in progress until RD# or CS# rises, otherwise high impedance (R167, R174). -/
def State.dataPins (s : State) (cs rd wr : Bool) : Option Word :=
  if cs && rd && !wr then s.port.data else none

end Sys2Proof.Machine
end

