-- ==== Sys2Proof/Machine/LaneCommands.lean ====
section
/-! DEFINITION. The lane commands: LANE_HOLD, LANE_RELEASE, LANE_RESET (chapter 6). -/

namespace Sys2Proof.Machine

/-- LANE_HOLD by the lane's mode and phase (R113). A HOLD_PENDING lane is met only with its hold in
flight. -/
def laneHoldOwner (arg : Byte) (s : State) : CmdAnswer :=
  match argLane arg with
  | none => .refused .badArg
  | some l =>
    match (s.lane l).mode with
    | .held => .refused .badState
    | .holdPending => .ruledOut
    | .running =>
      if (s.lane l).phase = .idle then .completed (s.modLane l fun L => { L with mode := .held })
      else .inFlight (.laneHold l) (s.modLane l fun L => { L with mode := .holdPending })

def execLaneHold (arg : Byte) (s : State) : Outcome := hostCommand 0x20 arg (laneHoldOwner arg) s

/-- LANE_RELEASE; the arbiter decides in the same event (R114). -/
def laneReleaseOwner (arg : Byte) (s : State) : CmdAnswer :=
  match argLane arg with
  | none => .refused .badArg
  | some l =>
    match (s.lane l).mode with
    | .running => .refused .badState
    | .holdPending => .ruledOut
    | .held => .completed (arbitrate l (s.modLane l fun L => { L with mode := .running }))

def execLaneRelease (arg : Byte) (s : State) : Outcome := hostCommand 0x21 arg (laneReleaseOwner arg) s

/-- LANE_RESET, accepted in every mode and phase (R129). -/
def laneResetOwner (arg : Byte) (s : State) : CmdAnswer :=
  match argLane arg with
  | none => .refused .badArg
  | some l => .completed (resetLane l s)

def execLaneReset (arg : Byte) (s : State) : Outcome := hostCommand 0x22 arg (laneResetOwner arg) s

end Sys2Proof.Machine
end

