-- ==== Sys2Proof/Machine/LaneEvents.lean ====
section
/-! DEFINITION. The events of a lane's transaction: SETUP_END, READY_OBSERVED, READY_TIMEOUT, WORD_END,
GAP_END, HOLD_END, DESELECT_END (R121 to R126), and the output pins of a lane (R96, R110, R111). -/

namespace Sys2Proof.Machine

/-- A ready wait stands before word w (R102, R122). -/
def waitBefore (line : LineProfile) (w : Nat) : Bool :=
  line.rdyLimit != 0 && (w == 0 || line.readyPerWord)

/-- The level of RDYn, true for high, is the level RDY_POLARITY names (R102). -/
def readyAt (line : LineProfile) (rdy : Bool) : Bool :=
  match line.rdyPolarity with
  | .high => rdy
  | .low => !rdy

/-- The phase before the transaction's next word: SHIFT, or READY_WAIT when a wait stands there and its
first look does not observe ready (R121, R122, R124). -/
def beforeWord (t : Txn) (rdy : Bool) : Phase :=
  if waitBefore t.line t.wordNo && !readyAt t.line rdy then .readyWait else .shift

/-- The word the owner supplies for word w (R4, R123, R148). -/
def suppliedWord (s : State) (o : Owner) (w : Nat) : Long :=
  match o with
  | .entry n =>
    let c := (s.entry n).cfg
    if w < c.cmdCount.toNat then (c.cmd[w]?).getD 0 else c.fill
  | .slot k => ((s.slot k).req.out[w]?).getD 0

/-- What arrives at word w is captured: at an entry's response words, at every word of a slot (R123). -/
def captures (s : State) (o : Owner) (w : Nat) : Bool :=
  match o with
  | .entry n => (s.entry n).cfg.cmdCount.toNat ≤ w
  | .slot _ => true

/-- SETUP ends (R121). -/
def execSetupEnd (l : LaneNo) (rdy : Bool) (s : State) : Outcome :=
  laneEvent l .setup
    (fun t s => .next (s.modLane l fun L => { L with phase := beforeWord t rdy, elapsed := 0 })) s

/-- The look at the end of bit period k of the wait finds ready; the word begins with the following number
(R122). A look that has passed, or one beyond the limit, cannot be this one (log entries 6, 10). -/
def execReadyObserved (l : LaneNo) (k : Nat) (s : State) : Outcome :=
  laneEvent l .readyWait
    (fun t s =>
      if 1 ≤ k ∧ k ≤ waitLimit t.line ∧ (s.lane l).elapsed ≤ streamLength t.line t.bitNo k then
        .next
          (s.modLane l fun L =>
            { L with phase := .shift, elapsed := 0, txn := some { t with bitNo := t.bitNo + k } })
      else .refused .eventNotPossible) s

/-- The wait runs out; HOLD begins with no gap (R122, R125). -/
def execReadyTimeout (l : LaneNo) (s : State) : Outcome :=
  laneEvent l .readyWait
    (fun t s => .next (s.modLane l (toHold .timeout { t with bitNo := t.bitNo + waitLimit t.line }))) s

/-- Where the lane goes at the end of a word, with the transaction as the word leaves it (R123). -/
def afterWord (t : Txn) (rdy : Bool) (L : Lane) : Lane :=
  if t.wordNo = t.words then toHold .complete t L
  else if t.cancelMark then toHold .cut t L
  else
    { L with
      phase := if t.line.wordGap ≠ 0 then .gap else beforeWord t rdy
      elapsed := 0
      txn := some t }

/-- The transaction as the end of its word leaves it (R98, R123). -/
def endWord (s : State) (t : Txn) (arrived : List Bool) : Txn :=
  { t with
    wordNo := t.wordNo + 1
    bitNo := t.bitNo + t.line.wordLen.toNat
    captured := if captures s t.owner t.wordNo then t.captured ++ [arrived] else t.captured }

/-- A word ends: captured when it is to be, SDOn holding its last bit (R123). WORD_LEN bits have arrived;
no other number can (log entry 6). -/
def execWordEnd (l : LaneNo) (arrived : List Bool) (rdy : Bool) (s : State) : Outcome :=
  laneEvent l .shift
    (fun t s =>
      if arrived.length = t.line.wordLen.toNat then
        .next
          (s.modLane l fun L =>
            { afterWord (endWord s t arrived) rdy L with
              sdoRest := lastBitSent t.line (suppliedWord s t.owner t.wordNo) })
      else .refused .eventNotPossible) s

/-- The word gap ends (R124). -/
def execGapEnd (l : LaneNo) (rdy : Bool) (s : State) : Outcome :=
  laneEvent l .gap
    (fun t s =>
      .next
        (s.modLane l fun L =>
          { L with
            phase := beforeWord t rdy, elapsed := 0
            txn := some { t with bitNo := t.bitNo + t.line.wordGap.toNat } })) s

/-- HOLD ends: the select is released, DESELECT begins and the outcome is delivered (R125). -/
def execHoldEnd (l : LaneNo) (s : State) : Outcome :=
  laneEvent l .hold
    (fun t s =>
      match t.ending with
      | none => .fault .ruledOut
      | some e =>
        .next
          (deliver t e.outcome
            (s.modLane l fun L => { L with phase := .deselect, elapsed := 0, sdoRest := false }))) s

/-- DESELECT ends: the record is discarded; then the arbiter decides, or a pending hold completes (R126,
R113). -/
def execDeselectEnd (l : LaneNo) (s : State) : Outcome :=
  laneEvent l .deselect
    (fun _ s =>
      let s := s.modLane l fun L => { L with phase := .idle, txn := none, elapsed := 0 }
      match (s.lane l).mode with
      | .running => .next (arbitrate l s)
      | .holdPending =>
        .next (completeFlight (.laneHold l) .ok (s.modLane l fun L => { L with mode := .held }))
      | .held => .next s) s

/-! ### The output pins of a lane -/

/-- The level of select output i of a lane: active in SETUP to HOLD of a transaction on it (R110, R120,
R125). -/
def Lane.selectLevel (L : Lane) (i : SelectNo) : Bool :=
  let active := L.selPolarity.getLsbD i
  match L.txn with
  | some t => if L.inFlight && t.select == i then active else !active
  | none => !active

/-- SSn0 to SSn3 of a lane. -/
def State.selectLevel (s : State) (l : LaneNo) (i : SelectNo) : Bool := ((settleDues s).lane l).selectLevel i

/-- SCKn: the resting level, but for the second half of a shifted bit period (R96, R111). -/
def State.sck (s : State) (l : LaneNo) : Bool :=
  let L := (settleDues s).lane l
  if L.clockActive then !L.sckRest else L.sckRest

/-- SDOn: in SHIFT the bit put out last, by the points CLOCK_MODE gives (R96, R123); otherwise the level it
holds. -/
def State.sdo (s : State) (l : LaneNo) : Bool :=
  let u := settleDues s
  let L := u.lane l
  match L.txn with
  | none => L.sdoRest
  | some t =>
    if L.phase = .shift then
      let w := suppliedWord u t.owner t.wordNo
      let j := bitsEnded t.line t.bitNo L.elapsed t.line.wordLen.toNat
      if j = t.line.wordLen.toNat then lastBitSent t.line w
      else if outputAtStart t.line || L.clockActive then bitSent t.line w j
      else if j = 0 then L.sdoRest
      else bitSent t.line w (j - 1)
    else L.sdoRest

end Sys2Proof.Machine
end

