-- ==== Sys2Proof/Machine/ResetPin.lean ====
section
/-! DEFINITION. The reset pin: POWER_ON_RESET and RESET_RELEASE (R131, R174). -/

namespace Sys2Proof.Machine

/-- RESET# goes low, or is held low: every block takes its power-on values and the part takes no host
access (R1, R76, R92, R93, R131, R156, R166, R174). The commands waiting in the model's queue are events
still to come, and stay (log entry 1). -/
def execPowerOnReset (s : State) : Outcome :=
  .next { State.powerOn with pending := s.pending, freeCount := s.freeCount }

/-- RESET# returns high: the blocks hold what the reset left and the first tick interval begins (R78,
R174). It cannot come while RESET# is high (log entry 6). -/
def execResetRelease (s : State) : Outcome :=
  if s.inReset then
    .next
      { s with
        inReset := false
        sched := { s.sched with interval := some (newInterval s.sched.tickDiv) } }
  else .refused .eventNotPossible

end Sys2Proof.Machine
end

