-- ==== Sys2Proof/Machine/ScanTable.lean ====
section
/-! DEFINITION. The entry commands: ENTRY_ENABLE, ENTRY_STOP, ENTRY_REARM (chapters 1 and 7). -/

namespace Sys2Proof.Machine

/-- The runtime part at enable (R16). -/
def enabledRun (c : EntryConfig) : EntryRun :=
  { EntryRun.powerOn with state := .wait, countdown := c.phase.toNat + 1 }

/-- ENTRY_ENABLE: the tests of R14 in their order, then R16. -/
def entryEnableOwner (arg : Byte) (s : State) : CmdAnswer :=
  match argEntry arg with
  | none => .refused .badArg
  | some n =>
    let e := s.entry n
    if e.run.state ≠ .off then .refused .badState
    else if e.cfg.valid (s.profile e.cfg.profile) then
      .completed (raiseUse e.cfg.profile (s.modRun n fun _ => enabledRun e.cfg))
    else .refused .badConfig

def execEntryEnable (arg : Byte) (s : State) : Outcome := hostCommand 0x10 arg (entryEnableOwner arg) s

/-- ENTRY_STOP by the entry's state (R18, R19). A STOPPING entry is met only with its stop in flight. -/
def entryStopOwner (arg : Byte) (s : State) : CmdAnswer :=
  match argEntry arg with
  | none => .refused .badArg
  | some n =>
    let e := s.entry n
    match e.run.state with
    | .off => .completed s
    | .wait => .completed (reachOff n s)
    | .queued => .completed (reachOff n (s.modLane e.cfg.lane fun L => { L with queue := L.queue.erase n }))
    | .active => .inFlight (.entryStop n) (s.modRun n fun r => { r with state := .stopping })
    | .stopping => .ruledOut

def execEntryStop (arg : Byte) (s : State) : Outcome := hostCommand 0x11 arg (entryStopOwner arg) s

/-- The rearm of a FAULTED entry (R139 case 4). -/
def rearm (r : EntryRun) : EntryRun :=
  match r.pending with
  | .fault => { r with health := .good, failRun := 0, pending := .none, overwritten := false }
  | .none | .initial | .change | .recover => { r with health := .good, failRun := 0 }

/-- ENTRY_REARM: the cases of R139 in their order. -/
def entryRearmOwner (arg : Byte) (s : State) : CmdAnswer :=
  match argEntry arg with
  | none => .refused .badArg
  | some n =>
    let e := s.entry n
    if e.run.state = .off then .refused .badState
    else if e.run.health ≠ .faulted then .refused .badState
    else .completed (s.modRun n rearm)

def execEntryRearm (arg : Byte) (s : State) : Outcome := hostCommand 0x12 arg (entryRearmOwner arg) s

end Sys2Proof.Machine
end

