-- ==== Sys2Proof/Machine/Timebase.lean ====
section
/-! DEFINITION. The scheduler's rows: TICK, DUE, START_SCAN, STOP_SCAN, TIME_HI_READ, TICK_DIV_WRITE
(chapter 4). -/

namespace Sys2Proof.Machine

/-- The tick interval ends: TIME advances, a new interval begins, and while RUNNING the countdowns move and
the dues are found (R77, R78, R80, R84). The dues of an earlier tick come first. -/
def execTick (s : State) : Outcome :=
  if s.inReset then .refused .eventNotPossible else .next (beginTick (settleDues s))

/-- The due of entry n at the tick in progress (R86 to R90), taken in ascending entry number. After the
last due of the tick the arbiters decide (R86, R117). -/
def execDue (n : EntryNo) (s : State) : Outcome :=
  if s.inReset then .refused .eventNotPossible
  else
    match s.sched.dues with
    | [] => .refused .eventNotPossible
    | d :: ds =>
      if d = n then
        let t := handleDue n { s with sched := { s.sched with dues := ds } }
        match ds with
        | [] => .next (wakeArbiters t)
        | _ :: _ => .next t
      else .refused .eventNotPossible

/-- START_SCAN (R81). -/
def startScanOwner (s : State) : CmdAnswer :=
  if s.sched.running then .refused .badState
  else .completed { s with sched := { s.sched with running := true } }

def execStartScan (arg : Byte) (s : State) : Outcome := hostCommand 0x01 arg startScanOwner s

/-- STOP_SCAN (R82, R13). -/
def stopScanOwner (s : State) : CmdAnswer :=
  if s.sched.running then
    .completed
      ({ s with
        sched := { s.sched with running := false }
        lanes := mapTable (fun L => { L with queue := [] }) s.lanes }.mapRuns fun e => unqueue e.run)
  else .refused .badState

def execStopScan (arg : Byte) (s : State) : Outcome := hostCommand 0x02 arg stopScanOwner s

/-- A read of TIME_HI returns the high half of TIME and latches the low half (R77). -/
def execTimeHiRead (s : State) : Outcome :=
  hostRead (fun s => hiHalf s.sched.time)
    (fun s => { s with port := { s.port with timeLatch := loHalf s.sched.time } }) s

/-- A write to TICK_DIV (R79). -/
def execTickDivWrite (v : Word) (s : State) : Outcome :=
  hostWrite
    (fun s =>
      if v = 0 then .next (accessError .badTick 0x12 s)
      else .next { s with sched := { s.sched with tickDiv := v } }) s

end Sys2Proof.Machine
end

