-- ==== Sys2Proof/Machine/Dispatch.lean ====
section
/-! DEFINITION. One arm per command: its meaning. -/

namespace Sys2Proof.Machine

def exec (i : Instr) (s : State) : Host.Outcome State Fault Refusal :=
  match i with
  | .powerOnReset => Sys2Proof.Machine.execPowerOnReset s
  | .resetRelease => Sys2Proof.Machine.execResetRelease s
  | .tick => Sys2Proof.Machine.execTick s
  | .due n => Sys2Proof.Machine.execDue n s
  | .startScan a => Sys2Proof.Machine.execStartScan a s
  | .stopScan a => Sys2Proof.Machine.execStopScan a s
  | .entryEnable a => Sys2Proof.Machine.execEntryEnable a s
  | .entryStop a => Sys2Proof.Machine.execEntryStop a s
  | .entryRearm a => Sys2Proof.Machine.execEntryRearm a s
  | .laneHold a => Sys2Proof.Machine.execLaneHold a s
  | .laneRelease a => Sys2Proof.Machine.execLaneRelease a s
  | .laneReset a => Sys2Proof.Machine.execLaneReset a s
  | .directSubmit a => Sys2Proof.Machine.execDirectSubmit a s
  | .directCancel a => Sys2Proof.Machine.execDirectCancel a s
  | .directRelease a => Sys2Proof.Machine.execDirectRelease a s
  | .queueFlush a => Sys2Proof.Machine.execQueueFlush a s
  | .softReset a => Sys2Proof.Machine.execSoftReset a s
  | .unknownCommand w => Sys2Proof.Machine.execUnknownCommand w s
  | .setupEnd l r => Sys2Proof.Machine.execSetupEnd l r s
  | .readyObserved l k => Sys2Proof.Machine.execReadyObserved l k s
  | .readyTimeout l => Sys2Proof.Machine.execReadyTimeout l s
  | .wordEnd l b r => Sys2Proof.Machine.execWordEnd l b r s
  | .gapEnd l r => Sys2Proof.Machine.execGapEnd l r s
  | .holdEnd l => Sys2Proof.Machine.execHoldEnd l s
  | .deselectEnd l => Sys2Proof.Machine.execDeselectEnd l s
  | .headInfoRead => Sys2Proof.Machine.execHeadInfoRead s
  | .pop v => Sys2Proof.Machine.execPop v s
  | .timeHiRead => Sys2Proof.Machine.execTimeHiRead s
  | .tickDivWrite v => Sys2Proof.Machine.execTickDivWrite v s
  | .queueLevelWrite v => Sys2Proof.Machine.execQueueLevelWrite v s
  | .ageLimitWrite v => Sys2Proof.Machine.execAgeLimitWrite v s
  | .irqCauseWrite v => Sys2Proof.Machine.execIrqCauseWrite v s
  | .irqEnableWrite v => Sys2Proof.Machine.execIrqEnableWrite v s
  | .tableSelectWrite v => Sys2Proof.Machine.execTableSelectWrite v s
  | .tableOffsetWrite v => Sys2Proof.Machine.execTableOffsetWrite v s
  | .tableDataRead => Sys2Proof.Machine.execTableDataRead s
  | .tableDataWrite v => Sys2Proof.Machine.execTableDataWrite v s
  | .registerWrite a v => Sys2Proof.Machine.execRegisterWrite a v s

end Sys2Proof.Machine
end

