-- ==== Sys2Proof/Machine/HostCycle.lean ====
section
/-! DEFINITION. A host access as the host makes it (R167): one cycle of the bus, which is a row of the table or a read
that has none. -/

namespace Sys2Proof.Machine

/-- One access: its row's meaning, or, for a read that has no row, the value it drives. -/
def hostCycle (b : BusCycle) (s : State) : Outcome :=
  match b with
  | .write a v => exec (decodeWrite a v) s
  | .read a =>
    match decodeRead a with
    | some c => exec c s
    | none => plainRead a s

/-- One cycle of CS#, RD# and WR# (`true` for low), A5 to A1 and D15 to D0: a cycle that is no access has no effect
and raises no error. -/
def pinCycle (cs rd wr : Bool) (a : Addr) (v : Word) (s : State) : Outcome :=
  match busCycle cs rd wr a v with
  | some b => hostCycle b s
  | none => .next s

end Sys2Proof.Machine
end

