-- ==== Sys2Proof/Safety.lean ====
section
/-! DEFINITION. What the claims speak of: the states in which a host access is taken at once, and the
laws of the rules that every event keeps. -/

namespace Sys2Proof.Machine

/-- RESET# is high and no due of a tick is outstanding: the state between two events (R84, R174). -/
def State.Settled (s : State) : Prop := s.inReset = false ∧ s.sched.dues = []

/-- Settled, with no command in flight: a command word is handed to its owner (R157). -/
def State.Ready (s : State) : Prop := s.Settled ∧ s.cmd.inFlight = none

/-- Records in queue order carry consecutive SEQ, and the next-sequence counter follows the last (R49). -/
def SeqChain : List Record → Word → Prop
  | [], _ => True
  | [r], next => r.seq + 1 = next
  | r :: q :: rest, next => r.seq + 1 = q.seq ∧ SeqChain (q :: rest) next

/-- R45, R49, R56: at most 32 records, consecutive SEQ, a held mark only on a head, COUNT in its range
(R48). -/
def QueueLaw (s : State) : Prop :=
  s.queue.records.length ≤ Config.changeQueueSize ∧
  SeqChain s.queue.records s.queue.nextSeq ∧
  (s.queue.held = true → s.queue.records ≠ []) ∧
  ∀ r ∈ s.queue.records,
    1 ≤ r.count ∧ r.count ≤ 255 ∧ (r.kind ≠ .change → r.count = 1)

/-- R61: a pending report stands only while the Change Queue holds exactly 32 records, PENDING NONE carries
no mark, and the queue never holds more than 32. -/
def PendingLaw (s : State) : Prop :=
  s.queue.records.length ≤ Config.changeQueueSize ∧
  ∀ n : EntryNo,
    ((s.entry n).run.pending ≠ .none → s.queue.records.length = Config.changeQueueSize) ∧
    ((s.entry n).run.pending = .none → (s.entry n).run.overwritten = false)

/-- The bounds of a lane (R109, R110, R116, R118): at most 16 entries wait, STREAK is at most 4, a
transaction record stands exactly while the lane is not IDLE, a HELD lane is IDLE, a transaction in HOLD
has its outcome decided (R125), and MIN_DESELECT is never 0. -/
def LaneLaw (s : State) : Prop :=
  ∀ l : LaneNo,
    (s.lane l).queue.length ≤ Config.laneQueueSize ∧ (s.lane l).streak ≤ 4 ∧
    ((s.lane l).phase = .idle ↔ (s.lane l).txn = none) ∧
    ((s.lane l).mode = .held → (s.lane l).phase = .idle) ∧
    (∀ x, (s.lane l).txn = some x → (s.lane l).phase = .hold → x.ending ≠ none) ∧
    1 ≤ (s.lane l).minDeselect.toNat

/-- R105: how many entries not in OFF and how many slots in QUEUED or RUNNING name a profile. -/
def usersOf (s : State) (p : ProfileNo) : Nat :=
  (s.entries.toList.countP fun e => e.run.state != .off && e.cfg.profile == p) +
    s.direct.slots.toList.countP fun x => (x.state == .queued || x.state == .running) && x.req.profile == p

/-- R105: every USE_COUNT counts exactly the users of its profile. -/
def UseLaw (s : State) : Prop := ∀ p : ProfileNo, (s.profile p).useCount = usersOf s p

/-- R106, R104: a profile in use is valid. -/
def UsedValidLaw (s : State) : Prop :=
  ∀ p : ProfileNo, 0 < (s.profile p).useCount → (s.profile p).valid = true

/-- The saturating counters of an entry keep their ranges (R8, R133, R84, R90). -/
def CounterLaw (s : State) : Prop :=
  ∀ n : EntryNo,
    (s.entry n).run.failRun ≤ 15 ∧ (s.entry n).run.skips ≤ 255 ∧ (s.entry n).run.countdown ≤ 524280

/-- R9, R116, R143, R145: the lane queues hold exactly the QUEUED entries, each once and in the queue of its
LANE; the submission list holds exactly the QUEUED slots, each once. -/
def MembershipLaw (s : State) : Prop :=
  (∀ l : LaneNo, (s.lane l).queue.Nodup) ∧
  (∀ (l : LaneNo) (n : EntryNo),
    n ∈ (s.lane l).queue ↔ (s.entry n).run.state = .queued ∧ (s.entry n).cfg.lane = l) ∧
  s.direct.waiting.Nodup ∧
  ∀ k : SlotNo, k ∈ s.direct.waiting ↔ (s.slot k).state = .queued

/-- R9, R109, R116, R145: the transaction in flight on a lane is owned by the one entry in ACTIVE or STOPPING, or
the one slot in RUNNING, that names the lane. -/
def OwnerLaw (s : State) : Prop :=
  ∀ l : LaneNo,
    (∀ n : EntryNo,
      (((s.entry n).run.state = .active ∨ (s.entry n).run.state = .stopping) ∧ (s.entry n).cfg.lane = l) ↔
        (s.lane l).inFlight = true ∧ (s.lane l).txn.map Txn.owner = some (.entry n)) ∧
    ∀ k : SlotNo,
      ((s.slot k).state = .running ∧ (s.slot k).req.lane = l) ↔
        (s.lane l).inFlight = true ∧ (s.lane l).txn.map Txn.owner = some (.slot k)

/-- R13, R19, R113, R151, R159: an entry is STOPPING exactly while its ENTRY_STOP is in flight, a lane is
HOLD_PENDING exactly while its LANE_HOLD is, and the slot of a DIRECT_CANCEL in flight is RUNNING. -/
def FlightLaw (s : State) : Prop :=
  (∀ n : EntryNo, (s.entry n).run.state = .stopping ↔ s.cmd.inFlight = some (.entryStop n)) ∧
  (∀ l : LaneNo, (s.lane l).mode = .holdPending ↔ s.cmd.inFlight = some (.laneHold l)) ∧
  ∀ k : SlotNo, s.cmd.inFlight = some (.directCancel k) → (s.slot k).state = .running

/-! ### The rules of reporting, as the claims read them -/

/-- R35, R38: the change condition of an entry with a configuration and runtime values. -/
def ConditionHolds (c : EntryConfig) (r : EntryRun) : Prop :=
  let number : Long → Int := fun x => if c.signed then x.toInt else (x.toNat : Int)
  match c.mode with
  | .change => r.last ≠ r.base
  | .delta => number c.threshA ≤ |number r.last - number r.base|
  | .zone => r.czone ≠ r.bzone
  | .every => True

/-- R66, R69: the drain posts a record for the entry: it owes an INITIAL, a FAULT or a RECOVER, or a CHANGE whose
condition still holds. -/
def ReportOwed (e : Entry) : Prop :=
  match e.run.pending with
  | .none => False
  | .change => ConditionHolds e.cfg e.run
  | .initial | .fault | .recover => True

/-- R51: no record takes a fold of the entry: it has none, or its newest is held, a FAULT or a RECOVER. -/
def NothingToFold (n : EntryNo) (q : ChangeQueue) : Prop :=
  ∀ (ahead behind : List Record) (x : Record), q.records = ahead ++ x :: behind → x.entry = n →
    (∀ y ∈ behind, y.entry ≠ n) → x.kind ≠ .change ∨ (ahead = [] ∧ q.held = true)

/-! ### Names the claims use for what many commands do alike -/

/-- COMMAND takes the accepted word and CMD_RESULT the answer OK (R158). -/
def acceptedOk (c : CommandUnit) (code arg : Byte) : CommandUnit :=
  { c with command := commandWord code arg, result := .ok, endedReset := false }

/-- The word is accepted in flight: CMD_RESULT keeps the answer before it (R157, R159). -/
def acceptedInFlight (c : CommandUnit) (code arg : Byte) (f : InFlight) : CommandUnit :=
  { c with command := commandWord code arg, inFlight := some f }

/-- CMD_RESULT takes a refusal; COMMAND keeps its word (R157, R158). -/
def refusedWith (c : CommandUnit) (r : CmdResult) : CommandUnit := { c with result := r, endedReset := false }

/-- The end of an in-flight command in the command unit (R159). -/
def flightEnded (c : CommandUnit) (r : CmdResult) : CommandUnit :=
  { c with inFlight := none, result := r, endedReset := false }

/-- D15 to D0 after a host write (log entry 11). -/
def undriven (p : HostPort) : HostPort := { p with data := none }

/-- ACCESS_ERR set, ERR_INFO with a code and an offset (R165). -/
def withError (q : InterruptUnit) (code : ErrCode) (offset : Byte) : InterruptUnit :=
  { q with accessErr := true, errCode := code, errOffset := offset }

end Sys2Proof.Machine
end

