-- ==== Sys2Proof/Certificates/Slice0/Obligations.lean ====
section
/-! DEFINITION. The statements for the provers, block by block. A statement that ends in one equation with
`{ s with … }` names every field of the state that changes; all others are unchanged. The clause `undriven`, what
D15 to D0 show after a host write, is the model's reading (log entry 11), in every statement it stands in. -/

open Sys2Proof Sys2Proof.Machine

/-! ### Steps and the queue of commands -/

/-- A step takes the command at the front of the queue and runs it on the state with the queue's rest. -/
def Obligations.StepRunsTheFrontCommand : Prop :=
  ∀ (c : Instr) (rest : List Instr) (s : State), s.pending = c :: rest →
    step s = exec c { s with pending := rest }

/-- The model's choice (log entry 3): with no command waiting, one CLKIN period of the tick interval (R78)
and of each lane's phase passes, and nothing else changes. -/
def Obligations.EmptyQueueLetsOneClockPeriodPass : Prop :=
  ∀ s : State, s.pending = [] → s.Settled →
    ∃ t, step s = .next t ∧
      (∀ l, t.lane l = { s.lane l with elapsed := min (s.lane l).phaseLength ((s.lane l).elapsed + 1) }) ∧
      t.sched =
        { s.sched with
          interval := s.sched.interval.map fun i => { i with count := min i.length (i.count + 1) } } ∧
      t = { s with lanes := t.lanes, sched := t.sched }

/-- No command touches the queue of commands that wait behind it. -/
def Obligations.CommandsLeaveTheQueueAlone : Prop :=
  ∀ (c : Instr) (s t : State), exec c s = .next t → t.pending = s.pending

/-- R84 with the model's choice of log entry 5: a tick and its dues are one event. Every command but DUE finds the
first outstanding due handled exactly as that due's own DUE row handles it, and so, one by one, all of them. -/
def Obligations.EveryCommandFollowsTheTickInProgress : Prop :=
  ∀ (c : Instr) (d : EntryNo) (ds : List EntryNo) (s : State), (∀ n, c ≠ .due n) → s.inReset = false →
    s.sched.dues = d :: ds →
    ∃ u, exec (.due d) s = .next u ∧ u.sched.dues = ds ∧ exec c s = exec c u

/-! ### Reset -/

/-- R1, R76, R92, R93, R131, R143, R156, R166, R174: RESET# low is taken in any state and puts every block at its
power-on values, the host port among them, the pins at their power-on levels, and no register can be read. -/
def Obligations.PowerOnResetFromAnyState : Prop :=
  ∀ s : State,
    ∃ t, exec .powerOnReset s = .next t ∧ t.inReset = true ∧ t.pending = s.pending ∧
      (∀ n, t.entry n = ⟨EntryConfig.powerOn, EntryRun.powerOn⟩) ∧
      (∀ p, t.profile p = Profile.powerOn) ∧ (∀ k, t.slot k = Slot.powerOn) ∧
      (∀ l, t.lane l =
        { selPolarity := 0, minDeselect := 2, mode := .held, phase := .idle, queue := [], streak := 0, txn := none
          elapsed := 0, sckRest := false, sdoRest := false }) ∧
      t.direct.nextOrder = 0 ∧ t.direct.waiting = [] ∧
      t.queue = { records := [], held := false, nextSeq := 0, level := 1, ageLimit := 0 } ∧
      t.sched = { running := false, time := 0, tickDiv := 100, interval := none, dues := [] } ∧
      t.cmd = { inFlight := none, command := 0, result := .ok, endedReset := false } ∧
      t.irq =
        { cmdDone := false, direct := false, accessErr := false, enable := 0, errCode := .none, errOffset := 0 } ∧
      t.port =
        { select := .entry 0, offset := 0, entrySnap := Vector.replicate _ 0, laneSnap := Vector.replicate _ 0
          timeLatch := 0, data := none } ∧
      t.irqLow = false ∧
      (∀ l i, t.selectLevel l i = true ∧ t.sck l = false ∧ t.sdo l = false) ∧
      ∀ a, readRegister t a = none

/-- R78, R174: RESET# returning high begins the first tick interval with the TICK_DIV held and changes
nothing else. While RESET# is high it cannot return high (log entry 6). -/
def Obligations.ResetReleaseBeginsTheTickInterval : Prop :=
  ∀ s : State,
    (s.inReset = true →
      exec .resetRelease s =
        .next
          { s with
            inReset := false, sched := { s.sched with interval := some ⟨s.sched.tickDiv.toNat * 256, 0⟩ } }) ∧
    (s.inReset = false → exec .resetRelease s = .refused .eventNotPossible)

/-- R174: while RESET# is low the part takes no host access. -/
def Obligations.NoHostAccessWhileResetIsLow : Prop :=
  ∀ (c : Instr) (b : BusCycle) (s : State), encodeCycle c = some b → c.wellFormed = true → s.inReset = true →
    exec c s = .next s

/-! ### The timebase -/

/-- R77, R78, R80, R84, R86: a tick advances TIME and begins an interval of the length TICK_DIV gives. While
STOPPED it changes nothing else. While RUNNING it takes one from the COUNTDOWN of every entry in WAIT, QUEUED or
ACTIVE, holds it in OFF and STOPPING, and finds due, in ascending order, the entries whose COUNTDOWN fell to 0. -/
def Obligations.TickAdvancesTimeAndCountdowns : Prop :=
  ∀ s : State, s.Settled →
    (s.sched.running = false →
      exec .tick s =
        .next
          { s with
            sched :=
              { s.sched with time := s.sched.time + 1, interval := some ⟨s.sched.tickDiv.toNat * 256, 0⟩ } }) ∧
    (s.sched.running = true →
      ∃ t, exec .tick s = .next t ∧
        (∀ n, t.entry n =
          if (s.entry n).run.state = .off ∨ (s.entry n).run.state = .stopping then s.entry n
          else
            { s.entry n with
              run := { (s.entry n).run with countdown := (s.entry n).run.countdown - 1 } }) ∧
        t.sched =
          { s.sched with
            time := s.sched.time + 1, interval := some ⟨s.sched.tickDiv.toNat * 256, 0⟩, dues := t.sched.dues } ∧
        (∀ n, n ∈ t.sched.dues ↔
          (s.entry n).run.state ≠ .off ∧ (s.entry n).run.state ≠ .stopping ∧ (s.entry n).run.countdown ≤ 1) ∧
        t.sched.dues.Pairwise (· < ·) ∧
        t = { s with entries := t.entries, sched := t.sched })

/-- R86 to R90, R10: the due of an entry in WAIT whose lane queue has room reloads its COUNTDOWN and appends it
at the tail. An overrun due, and a due whose lane queue is full, reload COUNTDOWN, raise SKIPS up to 255 and set
SKIP_FLAG; STATE and the lane queue stay. After the last due of a tick the arbiters decide: a lane that is not
RUNNING and IDLE, or for which nothing waits, stays as it is; on a RUNNING, IDLE lane for which no slot waits, or whose
STREAK is 4, the head of the queue becomes ACTIVE and its transaction begins (R117). -/
def Obligations.DueIsOfferedOrSkipped : Prop :=
  ∀ (n : EntryNo) (ds : List EntryNo) (s : State), s.inReset = false → s.sched.dues = n :: ds →
    let e := s.entry n
    let reloaded := if e.run.health = .faulted then 8 * e.cfg.period.toNat else e.cfg.period.toNat
    (e.run.state = .wait → (s.lane e.cfg.lane).queue.length < 16 →
      ∃ u,
        (ds ≠ [] → exec (.due n) s = .next u) ∧ (ds = [] → exec (.due n) s = .next (wakeArbiters u)) ∧
        (∀ m, u.entry m =
          if m = n then { e with run := { e.run with state := .queued, countdown := reloaded } } else s.entry m) ∧
        (∀ l, u.lane l =
          if l = e.cfg.lane then { s.lane l with queue := (s.lane l).queue ++ [n] } else s.lane l) ∧
        u = { s with entries := u.entries, lanes := u.lanes, sched := { s.sched with dues := ds } }) ∧
    (e.run.state = .queued ∨ e.run.state = .active ∨
        (e.run.state = .wait ∧ 16 ≤ (s.lane e.cfg.lane).queue.length) →
      ∃ u,
        (ds ≠ [] → exec (.due n) s = .next u) ∧ (ds = [] → exec (.due n) s = .next (wakeArbiters u)) ∧
        (∀ m, u.entry m =
          if m = n then
            { e with
              run :=
                { e.run with
                  skips := min 255 (e.run.skips + 1), skipFlag := true, countdown := reloaded } }
          else s.entry m) ∧
        u = { s with entries := u.entries, sched := { s.sched with dues := ds } }) ∧
    ∀ (u : State) (l : LaneNo),
      ((u.lane l).mode ≠ .running ∨ (u.lane l).phase ≠ .idle ∨
          ((u.lane l).queue = [] ∧ ∀ k ∈ u.direct.waiting, (u.slot k).req.lane ≠ l) →
        (wakeArbiters u).lane l = u.lane l) ∧
      ∀ (m : EntryNo) (q : List EntryNo), (u.lane l).mode = .running → (u.lane l).phase = .idle →
        (u.lane l).queue = m :: q →
        ((u.lane l).streak = 4 ∨ ∀ k ∈ u.direct.waiting, (u.slot k).req.lane ≠ l) →
        ((wakeArbiters u).entry m).run = { (u.entry m).run with state := .active } ∧
          ((wakeArbiters u).lane l).phase = .setup ∧ ((wakeArbiters u).lane l).queue = q ∧
          ((wakeArbiters u).lane l).streak = 0 ∧
          ((wakeArbiters u).lane l).txn.map Txn.owner = some (.entry m)

/-- R81, R82: START_SCAN makes a STOPPED scheduler RUNNING and touches no countdown; STOP_SCAN makes a RUNNING
one STOPPED, empties every lane queue and returns QUEUED entries to WAIT. Each is refused with BAD_STATE in the
other state of the scheduler. -/
def Obligations.StartScanAndStopScan : Prop :=
  ∀ (a : Byte) (s : State), s.Ready →
    (s.sched.running = false →
      exec (.startScan a) s =
        .next
          { s with
            sched := { s.sched with running := true }, cmd := acceptedOk s.cmd 0x01 a, port := undriven s.port }) ∧
    (s.sched.running = true →
      exec (.startScan a) s = .next { s with cmd := refusedWith s.cmd .badState, port := undriven s.port }) ∧
    (s.sched.running = false →
      exec (.stopScan a) s = .next { s with cmd := refusedWith s.cmd .badState, port := undriven s.port }) ∧
    (s.sched.running = true →
      ∃ t, exec (.stopScan a) s = .next t ∧
        (∀ n, t.entry n =
          if (s.entry n).run.state = .queued then
            { s.entry n with run := { (s.entry n).run with state := .wait } }
          else s.entry n) ∧
        (∀ l, t.lane l = { s.lane l with queue := [] }) ∧
        t =
          { s with
            entries := t.entries, lanes := t.lanes, sched := { s.sched with running := false }
            cmd := acceptedOk s.cmd 0x02 a, port := undriven s.port })

/-! ### Entry commands -/

/-- R16: an accepted ENTRY_ENABLE gives the runtime part its starting values, raises the profile's use count
and answers OK. -/
def Obligations.EntryEnableStartsTheEntry : Prop :=
  ∀ (a : Byte) (n : EntryNo) (s : State), s.Ready → a.toNat = n.val → (s.entry n).run.state = .off →
    (s.entry n).cfg.valid (s.profile (s.entry n).cfg.profile) = true →
    ∃ t, exec (.entryEnable a) s = .next t ∧
      (∀ m, t.entry m =
        if m = n then
          { s.entry n with
            run :=
              { state := .wait, health := .good, failRun := 0, lastCause := .none, primed := false, last := 0
                base := 0, czone := .none, bzone := .none, pending := .none, overwritten := false
                skipFlag := false, skips := 0, countdown := (s.entry n).cfg.phase.toNat + 1 } }
        else s.entry m) ∧
      (∀ p, t.profile p =
        if p = (s.entry n).cfg.profile then { s.profile p with useCount := (s.profile p).useCount + 1 }
        else s.profile p) ∧
      t =
        { s with
          entries := t.entries, profiles := t.profiles, cmd := acceptedOk s.cmd 0x10 a, port := undriven s.port }

/-- R17, R18, R19: ENTRY_STOP of an entry in OFF changes nothing of it; in WAIT or QUEUED the entry reaches OFF
at once, leaves its lane queue from wherever it stands, owes nothing, and its profile's count falls; in ACTIVE the
command goes in flight, the entry becomes STOPPING, and CMD_RESULT is not written. -/
def Obligations.EntryStopByTheEntrysState : Prop :=
  ∀ (a : Byte) (n : EntryNo) (s : State), s.Ready → a.toNat = n.val →
    ((s.entry n).run.state = .off →
      exec (.entryStop a) s = .next { s with cmd := acceptedOk s.cmd 0x11 a, port := undriven s.port }) ∧
    ((s.entry n).run.state = .wait ∨ (s.entry n).run.state = .queued →
      ∃ t, exec (.entryStop a) s = .next t ∧
        (∀ m, t.entry m =
          if m = n then
            { s.entry n with
              run := { (s.entry n).run with state := .off, pending := .none, overwritten := false } }
          else s.entry m) ∧
        (∀ l, t.lane l =
          if l = (s.entry n).cfg.lane ∧ (s.entry n).run.state = .queued then
            { s.lane l with queue := (s.lane l).queue.erase n }
          else s.lane l) ∧
        (∀ p, t.profile p =
          if p = (s.entry n).cfg.profile then { s.profile p with useCount := (s.profile p).useCount - 1 }
          else s.profile p) ∧
        t =
          { s with
            entries := t.entries, lanes := t.lanes, profiles := t.profiles
            cmd := acceptedOk s.cmd 0x11 a, port := undriven s.port }) ∧
    ((s.entry n).run.state = .active →
      ∃ t, exec (.entryStop a) s = .next t ∧
        (∀ m, t.entry m =
          if m = n then { s.entry n with run := { (s.entry n).run with state := .stopping } } else s.entry m) ∧
        t =
          { s with
            entries := t.entries, cmd := acceptedInFlight s.cmd 0x11 a (.entryStop n)
            port := undriven s.port })

/-- R139: ENTRY_REARM of a FAULTED entry in service makes it GOOD with FAIL_RUN 0, clears a pending FAULT
with its mark and keeps any other pending report; COUNTDOWN, STATE and the queue stay. An argument of 64 or more is
refused with BAD_ARG, an entry in OFF or not FAULTED with BAD_STATE. -/
def Obligations.EntryRearmClearsTheFault : Prop :=
  ∀ (a : Byte) (s : State), s.Ready →
    (64 ≤ a.toNat →
      exec (.entryRearm a) s = .next { s with cmd := refusedWith s.cmd .badArg, port := undriven s.port }) ∧
    ∀ n : EntryNo, a.toNat = n.val →
      ((s.entry n).run.state = .off ∨ (s.entry n).run.health ≠ .faulted →
        exec (.entryRearm a) s = .next { s with cmd := refusedWith s.cmd .badState, port := undriven s.port }) ∧
      ((s.entry n).run.state ≠ .off → (s.entry n).run.health = .faulted →
        ∃ t, exec (.entryRearm a) s = .next t ∧
          (∀ m, t.entry m =
            if m = n then
              { s.entry n with
                run :=
                  { (s.entry n).run with
                    health := .good
                    failRun := 0
                    pending := if (s.entry n).run.pending = .fault then .none else (s.entry n).run.pending
                    overwritten :=
                      if (s.entry n).run.pending = .fault then false else (s.entry n).run.overwritten } }
            else s.entry m) ∧
          t = { s with entries := t.entries, cmd := acceptedOk s.cmd 0x12 a, port := undriven s.port })

/-! ### Lane commands -/

/-- R113: LANE_HOLD makes a RUNNING, IDLE lane HELD at once; a RUNNING lane in another phase becomes
HOLD_PENDING, its transaction unchanged, with the command in flight. -/
def Obligations.LaneHoldByPhase : Prop :=
  ∀ (a : Byte) (l : LaneNo) (s : State), s.Ready → a.toNat = l.val → (s.lane l).mode = .running →
    ∃ t, exec (.laneHold a) s = .next t ∧
      ((s.lane l).phase = .idle →
        (∀ m, t.lane m = if m = l then { s.lane l with mode := .held } else s.lane m) ∧
        t = { s with lanes := t.lanes, cmd := acceptedOk s.cmd 0x20 a, port := undriven s.port }) ∧
      ((s.lane l).phase ≠ .idle →
        (∀ m, t.lane m = if m = l then { s.lane l with mode := .holdPending } else s.lane m) ∧
        t =
          { s with
            lanes := t.lanes, cmd := acceptedInFlight s.cmd 0x20 a (.laneHold l), port := undriven s.port })

/-- R114, R117, R120, R11: LANE_RELEASE of a HELD lane makes it RUNNING. With nothing waiting for it its pins stay.
Otherwise the arbiter's choice begins its transaction in the same event: the oldest waiting slot that names the lane
while STREAK is below 4 or the queue is empty; the head of the queue when no slot waits for the lane or STREAK is 4. -/
def Obligations.LaneReleaseLetsTheArbiterDecide : Prop :=
  ∀ (a : Byte) (l : LaneNo) (s : State), s.Ready → a.toNat = l.val → (s.lane l).mode = .held →
    let noSlot : Prop := ∀ k ∈ s.direct.waiting, (s.slot k).req.lane ≠ l
    ((s.lane l).queue = [] → noSlot →
      ∃ t, exec (.laneRelease a) s = .next t ∧
        (∀ m, t.lane m = if m = l then { s.lane l with mode := .running } else s.lane m) ∧
        t = { s with lanes := t.lanes, cmd := acceptedOk s.cmd 0x21 a, port := undriven s.port }) ∧
    (∀ (n : EntryNo) (q : List EntryNo), (s.lane l).phase = .idle → (s.lane l).queue = n :: q →
      noSlot ∨ (s.lane l).streak = 4 →
      ∃ t, exec (.laneRelease a) s = .next t ∧
        (∀ m, t.entry m =
          if m = n then { s.entry n with run := { (s.entry n).run with state := .active } } else s.entry m) ∧
        (∀ m, m ≠ l → t.lane m = s.lane m) ∧
        t.lane l =
          { s.lane l with
            mode := .running
            phase := .setup
            queue := q
            streak := 0
            elapsed := 0
            sckRest := decide (2 ≤ (s.profile (s.entry n).cfg.profile).line.clockMode.val)
            sdoRest := false
            txn :=
              some
                { owner := .entry n
                  select := (s.entry n).cfg.select
                  line := (s.profile (s.entry n).cfg.profile).line
                  wordNo := 0
                  words := (s.entry n).cfg.cmdCount.toNat + (s.entry n).cfg.respCount.toNat
                  captured := []
                  bitNo := 1
                  cancelMark := false
                  ending := none } } ∧
        t =
          { s with
            entries := t.entries, lanes := t.lanes, cmd := acceptedOk s.cmd 0x21 a, port := undriven s.port }) ∧
    ∀ (older later : List SlotNo) (k : SlotNo), (s.lane l).phase = .idle →
      s.direct.waiting = older ++ k :: later → (∀ j ∈ older, (s.slot j).req.lane ≠ l) → k ∉ older →
      (s.slot k).req.lane = l → (s.lane l).streak < 4 ∨ (s.lane l).queue = [] →
      ∃ t, exec (.laneRelease a) s = .next t ∧
        (∀ j, t.slot j = if j = k then { s.slot k with state := .running } else s.slot j) ∧
        t.direct = { s.direct with slots := t.direct.slots, waiting := older ++ later } ∧
        (∀ m, m ≠ l → t.lane m = s.lane m) ∧
        t.lane l =
          { s.lane l with
            mode := .running
            phase := .setup
            streak := min 4 ((s.lane l).streak + 1)
            elapsed := 0
            sckRest := decide (2 ≤ (s.profile (s.slot k).req.profile).line.clockMode.val)
            sdoRest := false
            txn :=
              some
                { owner := .slot k
                  select := (s.slot k).req.select
                  line := (s.profile (s.slot k).req.profile).line
                  wordNo := 0
                  words := (s.slot k).req.words.toNat
                  captured := []
                  bitNo := 1
                  cancelMark := false
                  ending := none } } ∧
        t =
          { s with
            direct := t.direct, lanes := t.lanes, cmd := acceptedOk s.cmd 0x21 a, port := undriven s.port }

/-- R129, R13, R131, R149, R150, R154: LANE_RESET leaves the lane HELD and IDLE with its configuration kept, every
select inactive and its QUEUED entries in WAIT, in every mode and phase. With no transaction in flight nothing else
changes. An ACTIVE entry whose transaction is aborted goes to WAIT with no other change. A RUNNING slot becomes
FAILED with cause ABORTED, DONE_COUNT the number of words captured and those words in RESULT, its profile's count
falls, and DIRECT is set when NOTIFY is 1. -/
def Obligations.LaneResetAbortsTheWork : Prop :=
  ∀ (a : Byte) (l : LaneNo) (s : State), s.Ready → a.toNat = l.val →
    ∃ t, exec (.laneReset a) s = .next t ∧
      (∀ m, t.lane m =
        if m = l then
          { s.lane l with
            mode := .held, phase := .idle, queue := [], streak := 0, txn := none, elapsed := 0, sdoRest := false }
        else s.lane m) ∧
      (∀ i, t.selectLevel l i = !(s.lane l).selPolarity.getLsbD i) ∧
      t.queue = s.queue ∧ t.sched = s.sched ∧ t.cmd = acceptedOk s.cmd 0x22 a ∧ t.port = undriven s.port ∧
      t.inReset = s.inReset ∧ t.pending = s.pending ∧ t.freeCount = s.freeCount ∧
      ((s.lane l).phase = .idle ∨ (s.lane l).phase = .deselect →
        (∀ m, t.entry m =
          if (s.entry m).cfg.lane = l ∧ (s.entry m).run.state = .queued then
            { s.entry m with run := { (s.entry m).run with state := .wait } }
          else s.entry m) ∧
        t.profiles = s.profiles ∧ t.direct = s.direct ∧ t.irq = s.irq) ∧
      ∀ x, (s.lane l).txn = some x → (s.lane l).phase ≠ .idle → (s.lane l).phase ≠ .deselect →
        (∀ n, x.owner = .entry n → (s.entry n).run.state = .active →
          (∀ m, t.entry m =
            if m = n ∨ ((s.entry m).cfg.lane = l ∧ (s.entry m).run.state = .queued) then
              { s.entry m with run := { (s.entry m).run with state := .wait } }
            else s.entry m) ∧
          t.profiles = s.profiles ∧ t.direct = s.direct ∧ t.irq = s.irq) ∧
        ∀ k, x.owner = .slot k → (s.slot k).state = .running →
          (∀ m, t.entry m =
            if (s.entry m).cfg.lane = l ∧ (s.entry m).run.state = .queued then
              { s.entry m with run := { (s.entry m).run with state := .wait } }
            else s.entry m) ∧
          (∀ j, t.slot j =
            if j = k then
              { s.slot k with
                state := .failed, cause := .aborted, doneCount := x.captured.length
                result := (t.slot k).result }
            else s.slot j) ∧
          (∀ i, i < x.captured.length → ∀ h : i < 8,
            (t.slot k).result[i] =
              wordValue (s.profile (s.slot k).req.profile).line.bitOrder ((x.captured[i]?).getD [])) ∧
          (∀ i, x.captured.length ≤ i → ∀ h : i < 8, (t.slot k).result[i] = (s.slot k).result[i]) ∧
          t.direct = { s.direct with slots := t.direct.slots } ∧
          (∀ p, t.profile p =
            if p = (s.slot k).req.profile then { s.profile p with useCount := (s.profile p).useCount - 1 }
            else s.profile p) ∧
          t.irq = { s.irq with direct := s.irq.direct || (s.slot k).req.notify }

/-! ### Slot commands -/

/-- R146, R147, R117, R148: DIRECT_SUBMIT of a FREE slot with WORDS from 1 to 8 and a valid profile stamps a new
ORDER, clears the results and raises the profile's count. For a lane that cannot take it at once the slot joins the
submission list; an IDLE, RUNNING lane for which nothing else waits takes it in the same event. -/
def Obligations.DirectSubmitQueuesOrStartsTheSlot : Prop :=
  ∀ (a : Byte) (k : SlotNo) (s : State), s.Ready → a.toNat = k.val → (s.slot k).state = .free →
    1 ≤ (s.slot k).req.words.toNat → (s.slot k).req.words.toNat ≤ 8 →
    (s.profile (s.slot k).req.profile).valid = true →
    let l := (s.slot k).req.lane
    let line := (s.profile (s.slot k).req.profile).line
    ∃ t, exec (.directSubmit a) s = .next t ∧
      t.direct.nextOrder = s.direct.nextOrder + 1 ∧
      (∀ p, t.profile p =
        if p = (s.slot k).req.profile then { s.profile p with useCount := (s.profile p).useCount + 1 }
        else s.profile p) ∧
      t.cmd = acceptedOk s.cmd 0x30 a ∧ t.port = undriven s.port ∧
      (¬((s.lane l).mode = .running ∧ (s.lane l).phase = .idle) →
        (∀ j, t.slot j =
          if j = k then
            { s.slot k with
              state := .queued, cause := .none, doneCount := 0, order := s.direct.nextOrder
              result := Vector.replicate 8 0 }
          else s.slot j) ∧
        t.direct.waiting = s.direct.waiting ++ [k] ∧
        t = { s with direct := t.direct, profiles := t.profiles, cmd := t.cmd, port := t.port }) ∧
      ((s.lane l).mode = .running → (s.lane l).phase = .idle → (s.lane l).queue = [] →
        (∀ j ∈ s.direct.waiting, (s.slot j).req.lane ≠ l) → k ∉ s.direct.waiting →
        (∀ j, t.slot j =
          if j = k then
            { s.slot k with
              state := .running, cause := .none, doneCount := 0, order := s.direct.nextOrder
              result := Vector.replicate 8 0 }
          else s.slot j) ∧
        t.direct.waiting = s.direct.waiting ∧
        (∀ m, t.lane m =
          if m = l then
            { s.lane l with
              phase := .setup
              streak := min 4 ((s.lane l).streak + 1)
              elapsed := 0
              sckRest := decide (2 ≤ line.clockMode.val)
              sdoRest := false
              txn :=
                some
                  { owner := .slot k, select := (s.slot k).req.select, line := line, wordNo := 0
                    words := (s.slot k).req.words.toNat, captured := [], bitNo := 1, cancelMark := false
                    ending := none } }
          else s.lane m) ∧
        t =
          { s with
            direct := t.direct, profiles := t.profiles, lanes := t.lanes, cmd := t.cmd, port := t.port })

/-- R127, R151, R154: DIRECT_CANCEL of a QUEUED slot withdraws it at once and touches no lane. Of a RUNNING slot it
goes in flight and acts on its lane by phase: SETUP, a ready wait and a gap end at once in HOLD, with a begun bit
period counted; a word is marked; HOLD runs on. -/
def Obligations.DirectCancelByTheSlotsState : Prop :=
  ∀ (a : Byte) (k : SlotNo) (s : State), s.Ready → a.toNat = k.val →
    ((s.slot k).state = .queued →
      ∃ t, exec (.directCancel a) s = .next t ∧
        (∀ j, t.slot j = if j = k then { s.slot k with state := .cancelled } else s.slot j) ∧
        t.direct = { s.direct with slots := t.direct.slots, waiting := s.direct.waiting.erase k } ∧
        (∀ p, t.profile p =
          if p = (s.slot k).req.profile then { s.profile p with useCount := (s.profile p).useCount - 1 }
          else s.profile p) ∧
        t =
          { s with
            direct := t.direct, profiles := t.profiles
            irq := { s.irq with direct := s.irq.direct || (s.slot k).req.notify }
            cmd := acceptedOk s.cmd 0x31 a, port := undriven s.port }) ∧
    ∀ (l : LaneNo) (x : Txn), (s.slot k).state = .running → (s.slot k).req.lane = l → (s.lane l).txn = some x →
      ∃ t, exec (.directCancel a) s = .next t ∧ (∀ m, m ≠ l → t.lane m = s.lane m) ∧
        ((s.lane l).phase = .setup →
          t.lane l =
            { s.lane l with phase := .hold, elapsed := 0, txn := some { x with ending := some .cut } }) ∧
        ((s.lane l).phase = .readyWait →
          t.lane l =
            { s.lane l with
              phase := .hold, elapsed := 0
              txn :=
                some
                  { x with
                    bitNo := x.bitNo + (s.lane l).bitInProgress x (x.line.rdyLimit.toNat * 16)
                    ending := some .cut } }) ∧
        ((s.lane l).phase = .gap →
          t.lane l =
            { s.lane l with
              phase := .hold, elapsed := 0
              txn :=
                some
                  { x with
                    bitNo := x.bitNo + (s.lane l).bitInProgress x x.line.wordGap.toNat
                    ending := some .cut } }) ∧
        ((s.lane l).phase = .shift → t.lane l = { s.lane l with txn := some { x with cancelMark := true } }) ∧
        ((s.lane l).phase = .hold → t.lane l = s.lane l) ∧
        t =
          { s with
            lanes := t.lanes, cmd := acceptedInFlight s.cmd 0x31 a (.directCancel k), port := undriven s.port }

/-- R153: DIRECT_RELEASE returns a slot in a final state to FREE and changes STATE alone; in FREE, QUEUED or
RUNNING it is refused with BAD_STATE, and an argument of 4 or more with BAD_ARG. -/
def Obligations.DirectReleaseFreesAFinishedSlot : Prop :=
  ∀ (a : Byte) (s : State), s.Ready →
    (4 ≤ a.toNat →
      exec (.directRelease a) s = .next { s with cmd := refusedWith s.cmd .badArg, port := undriven s.port }) ∧
    ∀ k : SlotNo, a.toNat = k.val →
      ((s.slot k).state = .done ∨ (s.slot k).state = .failed ∨ (s.slot k).state = .cancelled →
        ∃ t, exec (.directRelease a) s = .next t ∧
          (∀ j, t.slot j = if j = k then { s.slot k with state := .free } else s.slot j) ∧
          t =
            { s with
              direct := { s.direct with slots := t.direct.slots }, cmd := acceptedOk s.cmd 0x32 a
              port := undriven s.port }) ∧
      ((s.slot k).state = .free ∨ (s.slot k).state = .queued ∨ (s.slot k).state = .running →
        exec (.directRelease a) s =
          .next { s with cmd := refusedWith s.cmd .badState, port := undriven s.port })

/-! ### The command unit -/

/-- R71, R25: QUEUE_FLUSH removes every record and the held mark, clears every pending report, sets BASE to
LAST and BZONE to CZONE for every primed entry not in OFF, and keeps the next-sequence counter. -/
def Obligations.QueueFlushStartsReportingAfresh : Prop :=
  ∀ (a : Byte) (s : State), s.Ready →
    ∃ t, exec (.queueFlush a) s = .next t ∧
      (∀ n, t.entry n =
        { s.entry n with
          run :=
            { (s.entry n).run with
              pending := .none
              overwritten := false
              base :=
                if (s.entry n).run.state ≠ .off ∧ (s.entry n).run.primed = true then (s.entry n).run.last
                else (s.entry n).run.base
              bzone :=
                if (s.entry n).run.state ≠ .off ∧ (s.entry n).run.primed = true then (s.entry n).run.czone
                else (s.entry n).run.bzone } }) ∧
      queueCondition t = false ∧
      t =
        { s with
          entries := t.entries, queue := { s.queue with records := [], held := false }
          cmd := acceptedOk s.cmd 0x40 a, port := undriven s.port }

/-- R24, R76, R92, R108, R131, R156, R161, R162, R174: SOFT_RESET, with or without a command in flight. -/
def Obligations.SoftResetKeepsTheConfiguration : Prop :=
  ∀ (a : Byte) (s : State), s.Settled →
    ∃ t, exec (.softReset a) s = .next t ∧
      (∀ n, t.entry n = { s.entry n with run := EntryRun.powerOn }) ∧
      (∀ p, t.profile p = { s.profile p with useCount := 0 }) ∧
      (∀ l, t.lane l =
        { s.lane l with
          mode := .held, phase := .idle, queue := [], streak := 0, txn := none, elapsed := 0
          sckRest := false, sdoRest := false }) ∧
      (∀ k, t.slot k =
        { s.slot k with
          state := .free, cause := .none, doneCount := 0, order := 0, result := Vector.replicate 8 0 }) ∧
      t.direct = { slots := t.direct.slots, nextOrder := 0, waiting := [] } ∧
      queueCondition t = false ∧ t.irqLow = false ∧
      t =
        { s with
          entries := t.entries, profiles := t.profiles, lanes := t.lanes, direct := t.direct
          sched :=
            { s.sched with
              running := false, time := 0, interval := some ⟨s.sched.tickDiv.toNat * 256, 0⟩ }
          queue := { s.queue with records := [], held := false, nextSeq := 0 }
          cmd :=
            { inFlight := none, command := commandWord 0x7F a, result := .ok
              endedReset := s.cmd.inFlight.isSome }
          irq :=
            { s.irq with
              cmdDone := false, direct := false, accessErr := false, errCode := .none, errOffset := 0 }
          port := undriven s.port }

/-- R157: a word whose code is none of the thirteen is refused with UNKNOWN and reaches no block. -/
def Obligations.UnknownCommandIsRefused : Prop :=
  ∀ (w : Word) (s : State), (w.extractLsb' 8 8) ∉ definedCodes → s.Ready →
    exec (.unknownCommand w) s =
      .next { s with cmd := refusedWith s.cmd .unknown, port := undriven s.port }

/-- R160: while a command is in flight every word written to COMMAND, but SOFT_RESET's, is refused with BUSY: it
reaches no block, COMMAND, CMD_RESULT and the command in flight stay, ACCESS_ERR is set and ERR_INFO records
CMD_BUSY with the offset of COMMAND. What D15 to D0 show afterwards is left open. -/
def Obligations.BusyRefusal : Prop :=
  ∀ (c : Instr) (w : Word) (f : InFlight) (s : State), encodeCycle c = some (.write 0x03 w) →
    c.wellFormed = true → (∀ a, c ≠ .softReset a) → s.Settled → s.cmd.inFlight = some f →
    ∃ d, exec c s =
      .next { s with irq := withError s.irq .cmdBusy 0x06, port := { s.port with data := d } }

/-- R14, R18, R113, R114, R129, R146, R151, R157: the refusals by the owner of a command, in the order of its
tests: an argument that names no entry, lane or slot (BAD_ARG), the state of the thing named
(BAD_STATE), a configuration that fails its test (BAD_CONFIG). Nothing but CMD_RESULT changes. -/
def Obligations.OwnersRefuseInOrder : Prop :=
  ∀ (a : Byte) (s : State), s.Ready →
    let bad : CmdResult → Outcome := fun r => .next { s with cmd := refusedWith s.cmd r, port := undriven s.port }
    (64 ≤ a.toNat → ∀ c ∈ [Instr.entryEnable a, .entryStop a], exec c s = bad .badArg) ∧
    (4 ≤ a.toNat →
      ∀ c ∈ [Instr.laneHold a, .laneRelease a, .laneReset a, .directSubmit a, .directCancel a],
        exec c s = bad .badArg) ∧
    (∀ n : EntryNo, a.toNat = n.val →
      ((s.entry n).run.state ≠ .off → exec (.entryEnable a) s = bad .badState) ∧
      ((s.entry n).run.state = .off → (s.entry n).cfg.valid (s.profile (s.entry n).cfg.profile) = false →
        exec (.entryEnable a) s = bad .badConfig)) ∧
    (∀ l : LaneNo, a.toNat = l.val →
      ((s.lane l).mode = .held → exec (.laneHold a) s = bad .badState) ∧
      ((s.lane l).mode = .running → exec (.laneRelease a) s = bad .badState)) ∧
    ∀ k : SlotNo, a.toNat = k.val →
      ((s.slot k).state ≠ .free → exec (.directSubmit a) s = bad .badState) ∧
      ((s.slot k).state = .free →
        (s.slot k).req.words.toNat = 0 ∨ 8 < (s.slot k).req.words.toNat ∨
          (s.profile (s.slot k).req.profile).valid = false →
        exec (.directSubmit a) s = bad .badConfig) ∧
      ((s.slot k).state ≠ .queued → (s.slot k).state ≠ .running →
        exec (.directCancel a) s = bad .badState)

/-! ### The events of a lane -/

/-- R121, R122, R124: at the end of SETUP and of a word gap the lane goes to READY_WAIT when a wait stands
before the next word and its first look does not find ready, otherwise to SHIFT; the gap's bit periods are
counted in the stream. -/
def Obligations.SetupEndAndGapEnd : Prop :=
  ∀ (l : LaneNo) (rdy : Bool) (x : Txn) (s : State), s.Settled → (s.lane l).txn = some x →
    let before : Phase :=
      if x.line.rdyLimit ≠ 0 ∧ (x.wordNo = 0 ∨ x.line.readyPerWord = true) ∧
          rdy = (x.line.rdyPolarity == .low) then .readyWait
      else .shift
    ((s.lane l).phase = .setup →
      exec (.setupEnd l rdy) s = .next (s.setLane l { s.lane l with phase := before, elapsed := 0 })) ∧
    ((s.lane l).phase = .gap →
      exec (.gapEnd l rdy) s =
        .next
          (s.setLane l
            { s.lane l with
              phase := before, elapsed := 0
              txn := some { x with bitNo := x.bitNo + x.line.wordGap.toNat } }))

/-- R122: ready observed at the look that ends bit period k of a wait takes k numbers of the stream and
begins the word; the ready timeout takes RDY_LIMIT × 16 and goes to HOLD. -/
def Obligations.ReadyWaitEnds : Prop :=
  ∀ (l : LaneNo) (k : Nat) (x : Txn) (s : State), s.Settled → (s.lane l).txn = some x →
    (s.lane l).phase = .readyWait →
    (1 ≤ k → k ≤ x.line.rdyLimit.toNat * 16 → (s.lane l).elapsed ≤ streamLength x.line x.bitNo k →
      exec (.readyObserved l k) s =
        .next
          (s.setLane l
            { s.lane l with phase := .shift, elapsed := 0, txn := some { x with bitNo := x.bitNo + k } })) ∧
    exec (.readyTimeout l) s =
      .next
        (s.setLane l
          { s.lane l with
            phase := .hold, elapsed := 0
            txn :=
              some { x with bitNo := x.bitNo + x.line.rdyLimit.toNat * 16, ending := some .timeout } })

/-- R123: the end of a word. It is captured at a response word of an entry and at every word of a slot; the
word number and the stream advance; SDOn holds its last bit; the lane goes to HOLD after the last word or a
marked one, to GAP when there is one, otherwise to what stands before the next word. -/
def Obligations.WordEndGoesOn : Prop :=
  ∀ (l : LaneNo) (bits : List Bool) (rdy : Bool) (x : Txn) (s : State), s.Settled →
    (s.lane l).txn = some x → (s.lane l).phase = .shift → bits.length = x.line.wordLen.toNat →
    ∃ t y, exec (.wordEnd l bits rdy) s = .next t ∧ (t.lane l).txn = some y ∧
      (t.lane l).elapsed = 0 ∧
      y =
        { x with
          wordNo := x.wordNo + 1
          bitNo := x.bitNo + x.line.wordLen.toNat
          captured :=
            if (∀ n, x.owner = .entry n → (s.entry n).cfg.cmdCount.toNat ≤ x.wordNo) then
              x.captured ++ [bits]
            else x.captured
          ending := y.ending } ∧
      (x.wordNo + 1 = x.words → (t.lane l).phase = .hold ∧ y.ending = some .complete) ∧
      (x.wordNo + 1 ≠ x.words → x.cancelMark = true →
        (t.lane l).phase = .hold ∧ y.ending = some .cut) ∧
      (x.wordNo + 1 ≠ x.words → x.cancelMark = false → x.line.wordGap ≠ 0 →
        (t.lane l).phase = .gap ∧ y.ending = x.ending) ∧
      (x.wordNo + 1 ≠ x.words → x.cancelMark = false → x.line.wordGap = 0 →
        y.ending = x.ending ∧
        (t.lane l).phase =
          if x.line.rdyLimit ≠ 0 ∧ x.line.readyPerWord = true ∧ rdy = (x.line.rdyPolarity == .low) then
            .readyWait
          else .shift) ∧
      (t.lane l).sdoRest = lastBitSent x.line (suppliedWord s x.owner x.wordNo) ∧
      t =
        s.setLane l
          { s.lane l with
            phase := (t.lane l).phase, elapsed := 0, txn := some y, sdoRest := (t.lane l).sdoRest }

/-- R125: the end of HOLD completes for every owner and outcome: the lane goes to DESELECT with every select
inactive and SDOn low, and no other lane, no configuration and nothing of the scheduler changes. -/
def Obligations.HoldEndReleasesTheSelect : Prop :=
  ∀ (l : LaneNo) (x : Txn) (e : Ending) (s : State), s.Settled → (s.lane l).txn = some x →
    (s.lane l).phase = .hold → x.ending = some e →
    ∃ t, exec (.holdEnd l) s = .next t ∧
      (∀ m, t.lane m =
        if m = l then { s.lane l with phase := .deselect, elapsed := 0, sdoRest := false } else s.lane m) ∧
      (∀ i, t.selectLevel l i = !(s.lane l).selPolarity.getLsbD i) ∧
      (∀ n, (t.entry n).cfg = (s.entry n).cfg) ∧
      (∀ p, (t.profile p).line = (s.profile p).line ∧ (t.profile p).faultLimit = (s.profile p).faultLimit) ∧
      (∀ k, (t.slot k).req = (s.slot k).req) ∧
      t =
        { s with
          entries := t.entries, profiles := t.profiles, lanes := t.lanes, direct := t.direct
          queue := t.queue, cmd := t.cmd, irq := t.irq }

/-- R20, R17: an outcome delivered to a STOPPING entry is discarded, the entry reaches OFF with its health
and values kept, and the in-flight ENTRY_STOP completes with OK and CMD_DONE. -/
def Obligations.HoldEndCompletesAStop : Prop :=
  ∀ (l : LaneNo) (n : EntryNo) (x : Txn) (e : Ending) (s : State), s.Settled → (s.lane l).txn = some x →
    (s.lane l).phase = .hold → x.ending = some e → x.owner = .entry n → (s.entry n).run.state = .stopping →
    s.cmd.inFlight = some (.entryStop n) →
    ∃ t, exec (.holdEnd l) s = .next t ∧
      (∀ m, t.entry m =
        if m = n then
          { s.entry n with
            run := { (s.entry n).run with state := .off, pending := .none, overwritten := false } }
        else s.entry m) ∧
      (∀ p, t.profile p =
        if p = (s.entry n).cfg.profile then { s.profile p with useCount := (s.profile p).useCount - 1 }
        else s.profile p) ∧
      t.cmd = flightEnded s.cmd .ok ∧ t.irq = { s.irq with cmdDone := true } ∧ t.queue = s.queue ∧
      t.direct = s.direct

/-- R149, R150, R152, R154: the outcome of a RUNNING slot decides its final state; DONE_COUNT is the number of
words captured; the use count falls; an in-flight DIRECT_CANCEL of the slot completes. -/
def Obligations.HoldEndFinishesASlot : Prop :=
  ∀ (l : LaneNo) (k : SlotNo) (x : Txn) (e : Ending) (s : State), s.Settled → (s.lane l).txn = some x →
    (s.lane l).phase = .hold → x.ending = some e → x.owner = .slot k → (s.slot k).state = .running →
    ∃ t, exec (.holdEnd l) s = .next t ∧
      (e = .complete → (t.slot k).state = .done ∧ (t.slot k).cause = .none) ∧
      (e = .timeout → (t.slot k).state = .failed ∧ (t.slot k).cause = .readyTimeout) ∧
      (e = .cut → (t.slot k).state = .cancelled ∧ (t.slot k).cause = .none) ∧
      (t.slot k).doneCount = x.captured.length ∧
      (∀ i, i < x.captured.length → ∀ h : i < 8,
        (t.slot k).result[i] =
          wordValue (s.profile (s.slot k).req.profile).line.bitOrder ((x.captured[i]?).getD [])) ∧
      (∀ i, x.captured.length ≤ i → ∀ h : i < 8, (t.slot k).result[i] = (s.slot k).result[i]) ∧
      (∀ j, j ≠ k → t.slot j = s.slot j) ∧
      (∀ p, t.profile p =
        if p = (s.slot k).req.profile then { s.profile p with useCount := (s.profile p).useCount - 1 }
        else s.profile p) ∧
      t.irq =
        { s.irq with
          direct := s.irq.direct || (s.slot k).req.notify
          cmdDone := s.irq.cmdDone || decide (s.cmd.inFlight = some (.directCancel k)) } ∧
      t.cmd =
        (if s.cmd.inFlight = some (.directCancel k) then
          flightEnded s.cmd (if e = .cut then .ok else .tooLate)
        else s.cmd) ∧
      t.entries = s.entries ∧ t.queue = s.queue

/-- R126, R113: the end of DESELECT discards the record and leaves the lane IDLE; a RUNNING lane for which
nothing waits stays so; a HOLD_PENDING lane becomes HELD and its in-flight LANE_HOLD completes. -/
def Obligations.DeselectEndLeavesTheLaneIdle : Prop :=
  ∀ (l : LaneNo) (x : Txn) (s : State), s.Settled → (s.lane l).txn = some x → (s.lane l).phase = .deselect →
    ((s.lane l).mode = .running → (s.lane l).queue = [] →
      (∀ k ∈ s.direct.waiting, (s.slot k).req.lane ≠ l) →
      exec (.deselectEnd l) s =
        .next (s.setLane l { s.lane l with phase := .idle, txn := none, elapsed := 0 })) ∧
    ((s.lane l).mode = .holdPending → s.cmd.inFlight = some (.laneHold l) →
      ∃ t, exec (.deselectEnd l) s = .next t ∧
        (∀ m, t.lane m =
          if m = l then { s.lane l with phase := .idle, txn := none, elapsed := 0, mode := .held }
          else s.lane m) ∧
        t =
          { s with
            lanes := t.lanes, cmd := flightEnded s.cmd .ok, irq := { s.irq with cmdDone := true } })

/-- R117, R118: at the end of DESELECT a RUNNING lane takes the oldest waiting slot that names it while
STREAK is below 4 or its queue is empty. With an entry waiting it takes the head of the queue when no slot waits
for the lane, and when STREAK is 4 whatever slots wait. -/
def Obligations.ArbiterChoosesAtDeselectEnd : Prop :=
  ∀ (l : LaneNo) (x : Txn) (s : State), s.Settled → (s.lane l).txn = some x → (s.lane l).phase = .deselect →
    (s.lane l).mode = .running →
    (∀ (older later : List SlotNo) (k : SlotNo), s.direct.waiting = older ++ k :: later →
      (∀ j ∈ older, (s.slot j).req.lane ≠ l) → k ∉ older → (s.slot k).req.lane = l →
      (s.lane l).streak < 4 ∨ (s.lane l).queue = [] →
      ∃ t, exec (.deselectEnd l) s = .next t ∧ t.direct.waiting = older ++ later ∧
        (t.slot k).state = .running ∧ (∀ j, j ≠ k → t.slot j = s.slot j) ∧
        (t.lane l).phase = .setup ∧ (t.lane l).queue = (s.lane l).queue ∧
        (t.lane l).streak = min 4 ((s.lane l).streak + 1) ∧
        (t.lane l).txn.map Txn.owner = some (.slot k) ∧ t.entries = s.entries ∧ t.cmd = s.cmd) ∧
    (∀ (n : EntryNo) (q : List EntryNo), (s.lane l).queue = n :: q →
      ((s.lane l).streak = 4 ∨ ∀ k ∈ s.direct.waiting, (s.slot k).req.lane ≠ l) →
      ∃ t, exec (.deselectEnd l) s = .next t ∧ t.direct = s.direct ∧ (t.entry n).run.state = .active ∧
        (∀ m, m ≠ n → t.entry m = s.entry m) ∧ (t.lane l).phase = .setup ∧ (t.lane l).queue = q ∧
        (t.lane l).streak = 0 ∧ (t.lane l).txn.map Txn.owner = some (.entry n) ∧ t.cmd = s.cmd)

/-- R120, R125: from SETUP to HOLD the select of the transaction is at its active level; no other select output of a
lane ever is, and none is active in IDLE and DESELECT. -/
def Obligations.AtMostOneSelectIsActive : Prop :=
  ∀ L : Lane,
    (∀ i j : SelectNo, L.selectLevel i = L.selPolarity.getLsbD i →
      (L.selectLevel j = L.selPolarity.getLsbD j → i = j) ∧
      (L.phase = .setup ∨ L.phase = .readyWait ∨ L.phase = .shift ∨ L.phase = .gap ∨ L.phase = .hold) ∧
      L.txn.map Txn.select = some i) ∧
    ∀ x, L.txn = some x →
      (L.phase = .setup ∨ L.phase = .readyWait ∨ L.phase = .shift ∨ L.phase = .gap ∨ L.phase = .hold) →
      L.selectLevel x.select = L.selPolarity.getLsbD x.select

/-! ### Bit periods -/

/-- R99: position 16 is stretched for every FINE from 1 to 15, none with FINE 0, and any 16 consecutive bit
periods last 32 × (DIV + 1) + FINE CLKIN periods, wherever in the stream they begin. -/
def Obligations.SixteenBitPeriodsLastTheSame : Prop :=
  (∀ fine, 1 ≤ fine → fine ≤ 15 → stretchedAt fine 16 = true) ∧ (∀ p, stretchedAt 0 p = false) ∧
  ∀ (line : LineProfile) (k : Nat), 1 ≤ k →
    streamLength line k 16 = 32 * (line.div.toNat + 1) + line.fine.toNat

/-! ### Sampling, faults and reports -/

/-- R27, R28, R30, R31: the sample. A captured word is its bits in arrival order, most or least significant first; the
response string joins the words, the first most significant; bit i of the sample below FIELD_WIDTH is bit
FIELD_OFFSET + i of the string and bit i of MASK, and every higher bit is 0 (SIGNED clear) or a copy of bit
FIELD_WIDTH − 1 (SIGNED set); and so the sample stays in its range. -/
def Obligations.SampleStaysInItsRange : Prop :=
  (∀ (bits : List Bool) (i : Nat), bits.length ≤ 32 → i < 32 →
    ((wordValue .msbFirst bits).getLsbD i = (decide (i < bits.length) && (bits[bits.length - 1 - i]?).getD false)) ∧
    (wordValue .lsbFirst bits).getLsbD i = (bits[i]?).getD false) ∧
  (∀ wordLen : Nat, responseString wordLen [] = 0 ∧
    ∀ (words : List Long) (w : Long),
      responseString wordLen (words ++ [w]) = responseString wordLen words * 2 ^ wordLen + w.toNat) ∧
  ∀ (c : EntryConfig) (string : Nat), 1 ≤ c.fieldWidth.toNat → c.fieldWidth.toNat ≤ 32 →
    let width := c.fieldWidth.toNat
    let field : Nat → Bool := fun i => string.testBit (c.fieldOffset.toNat + i) && c.mask.getLsbD i
    (∀ i, i < 32 →
      (sampleOf c string).getLsbD i = if i < width then field i else c.signed && field (width - 1)) ∧
    (c.signed = false → (sampleOf c string).toNat < 2 ^ width) ∧
    (c.signed = true →
      -(2 ^ (width - 1) : Int) ≤ (sampleOf c string).toInt ∧ (sampleOf c string).toInt < 2 ^ (width - 1))

/-- Section 2.8: the hysteretic step from each zone, its tests in their order; with HYST 0 and the bounds in order it
gives the plain zone from every starting zone. That it does so from NONE too, where no rule makes a step, is the
model's choice (log entry 13). -/
def Obligations.HysteresisOfZones : Prop :=
  ∀ (c : EntryConfig) (x : Long),
    let v := numberOf c.signed x
    let a := numberOf c.signed c.threshA
    let b := numberOf c.signed c.threshB
    let h : Int := (c.hyst.toNat : Int)
    stepZone c .mid x = (if v < a then .low else if v > b then .high else .mid) ∧
    stepZone c .low x = (if v > b then .high else if v ≥ a + h then .mid else .low) ∧
    stepZone c .high x = (if v < a then .low else if v ≤ b - h then .mid else .high) ∧
    (h = 0 → a ≤ b → ∀ z, stepZone c z x = plainZone c x)

/-- R12, R29, R132, R134, R135, R136: a ready timeout, and a response that fails its check, of an ACTIVE entry raise
FAIL_RUN up to 15 and set LAST_CAUSE. An entry that is not FAULTED becomes SUSPECT below the limit, with nothing
posted; at or above it, with room in the queue, it becomes FAULTED and one FAULT record is appended. An entry that
is FAULTED stays so and nothing is posted. -/
def Obligations.FailuresCountAndFault : Prop :=
  ∀ (l : LaneNo) (n : EntryNo) (x : Txn) (why : FailCause) (s : State), s.Settled → (s.lane l).txn = some x →
    (s.lane l).phase = .hold → x.owner = .entry n → (s.entry n).run.state = .active →
    (x.ending = some .timeout ∧ why = .readyTimeout) ∨
      (x.ending = some .complete ∧ why = .checkMismatch ∧
        checkPasses (s.entry n).cfg
          (x.captured.map (wordValue (s.profile (s.entry n).cfg.profile).line.bitOrder)) = false) →
    let r := (s.entry n).run
    let run := min 15 (r.failRun + 1)
    let limit := (s.profile (s.entry n).cfg.profile).faultLimit.toNat
    ∃ t, exec (.holdEnd l) s = .next t ∧ (∀ m, m ≠ n → t.entry m = s.entry m) ∧
      (r.health = .faulted →
        (t.entry n).run = { r with state := .wait, failRun := run, lastCause := why } ∧ t.queue = s.queue) ∧
      (r.health ≠ .faulted → run < limit →
        (t.entry n).run = { r with state := .wait, failRun := run, lastCause := why, health := .suspect } ∧
        t.queue = s.queue) ∧
      (r.health ≠ .faulted → limit ≤ run → s.queue.records.length < 32 →
        (t.entry n).run =
          { r with state := .wait, failRun := run, lastCause := why, health := .faulted, skipFlag := false } ∧
        t.queue =
          { s.queue with
            nextSeq := s.queue.nextSeq + 1
            records :=
              s.queue.records ++
                [{ kind := .fault, entry := n, seq := s.queue.nextSeq, initial := false
                   skipped := r.skipFlag, deferred := false, overwritten := false, count := 1
                   old := if r.primed then r.last else 0, new := 0, oldZone := r.czone, newZone := .none
                   cause := why, first := s.sched.time, latest := s.sched.time }] }) ∧
      t.profiles = s.profiles ∧ t.direct = s.direct ∧ t.cmd = s.cmd ∧ t.irq = s.irq

/-- R26 to R34, R36 to R42, R51, R53: a good response of a primed entry that is not FAULTED, in every mode. LAST takes
the sample and CZONE the stepped zone. Where the change condition does not hold nothing is posted; where it holds, with
nothing to fold into and room in the queue, one CHANGE record is appended and its values become what the host was last
told. -/
def Obligations.ChangedSampleIsReported : Prop :=
  ∀ (l : LaneNo) (n : EntryNo) (x : Txn) (v : Long) (s : State), s.Settled → (s.lane l).txn = some x →
    (s.lane l).phase = .hold → x.ending = some .complete → x.owner = .entry n →
    (s.entry n).run.state = .active → (s.entry n).run.health ≠ .faulted → (s.entry n).run.primed = true →
    let c := (s.entry n).cfg
    let r := (s.entry n).run
    let line := (s.profile c.profile).line
    let words := x.captured.map (wordValue line.bitOrder)
    (words[c.checkWord.toNat]?).getD 0 &&& c.checkMask = c.checkValue &&& c.checkMask →
    sampleOf c (responseString line.wordLen.toNat words) = v →
    let judged : EntryRun :=
      { r with
        state := .wait, health := .good, failRun := 0, last := v
        czone := if c.mode = .zone then stepZone c r.czone v else .none }
    (¬ConditionHolds c judged →
      ∃ t, exec (.holdEnd l) s = .next t ∧ (∀ m, m ≠ n → t.entry m = s.entry m) ∧ (t.entry n).run = judged ∧
        t.queue = s.queue ∧ t.profiles = s.profiles ∧ t.direct = s.direct ∧ t.cmd = s.cmd ∧ t.irq = s.irq) ∧
    (ConditionHolds c judged → NothingToFold n s.queue → s.queue.records.length < 32 →
      ∃ t, exec (.holdEnd l) s = .next t ∧ (∀ m, m ≠ n → t.entry m = s.entry m) ∧
        (t.entry n).run = { judged with base := v, bzone := judged.czone, skipFlag := false } ∧
        t.queue =
          { s.queue with
            nextSeq := s.queue.nextSeq + 1
            records :=
              s.queue.records ++
                [{ kind := .change, entry := n, seq := s.queue.nextSeq, initial := false
                   skipped := r.skipFlag, deferred := false, overwritten := false, count := 1
                   old := r.base, new := v, oldZone := r.bzone, newZone := judged.czone, cause := .none
                   first := s.sched.time, latest := s.sched.time }] } ∧
        t.profiles = s.profiles ∧ t.direct = s.direct ∧ t.cmd = s.cmd ∧ t.irq = s.irq)

/-- R32, R33, R36, R137: a good response of an entry that is not FAULTED and holds no sample primes it, silently
when INITIAL_REPORT is 0, and with one CHANGE record marked INITIAL when it is 1, nothing takes a fold and the queue has
room; of a FAULTED entry it runs the recovery path, which re-primes the entry and, with room in
the queue, appends one RECOVER record. The zones become the plain zone in ZONE mode and NONE in other modes. -/
def Obligations.FirstSampleAndRecoveryPrimeTheEntry : Prop :=
  ∀ (n : EntryNo) (v : Long) (s : State),
    let c := (s.entry n).cfg
    let r := (s.entry n).run
    let z : Zone := if c.mode = .zone then plainZone c v else .none
    (∀ m, m ≠ n → (goodResponse n v s).entry m = s.entry m) ∧
    (r.health ≠ .faulted → r.primed = false → c.initialReport = false →
      ((goodResponse n v s).entry n).run =
        { r with
          health := .good, failRun := 0, primed := true, last := v, base := v, czone := z, bzone := z } ∧
      (goodResponse n v s).queue = s.queue) ∧
    (r.health ≠ .faulted → r.primed = false → c.initialReport = true → NothingToFold n s.queue →
      s.queue.records.length < 32 →
      ((goodResponse n v s).entry n).run =
        { r with
          health := .good, failRun := 0, primed := true, last := v, base := v, czone := z, bzone := z
          skipFlag := false } ∧
      (goodResponse n v s).queue =
        { s.queue with
          nextSeq := s.queue.nextSeq + 1
          records :=
            s.queue.records ++
              [{ kind := .change, entry := n, seq := s.queue.nextSeq, initial := true
                 skipped := r.skipFlag, deferred := false, overwritten := false, count := 1
                 old := v, new := v, oldZone := z, newZone := z
                 cause := .none, first := s.sched.time, latest := s.sched.time }] }) ∧
    (r.health = .faulted → s.queue.records.length < 32 →
      ((goodResponse n v s).entry n).run =
        { r with
          health := .good, failRun := 0, primed := true, last := v, base := v, czone := z, bzone := z
          skipFlag := false } ∧
      (goodResponse n v s).queue =
        { s.queue with
          nextSeq := s.queue.nextSeq + 1
          records :=
            s.queue.records ++
              [{ kind := .recover, entry := n, seq := s.queue.nextSeq, initial := !r.primed
                 skipped := r.skipFlag, deferred := false, overwritten := false, count := 1
                 old := if r.primed then r.base else 0, new := v, oldZone := r.bzone, newZone := z
                 cause := .none, first := s.sched.time, latest := s.sched.time }] })

/-- R51, R52: a CHANGE request of an entry that owes no report, whose newest record is a CHANGE that is not held,
is folded into that record where it stands: the record keeps its place, SEQ, FIRST, OLD, OLD_ZONE and flags, COUNT
rises up to 255, and the entry takes the answer "reported". -/
def Obligations.ChangeFoldsIntoAnUnheldRecord : Prop :=
  ∀ (r : Request) (ahead behind : List Record) (x : Record) (s : State), r.kind = .change →
    s.queue.records = ahead ++ x :: behind → x.entry = r.entry → (∀ y ∈ behind, y.entry ≠ r.entry) →
    x.kind = .change → (s.queue.held = false ∨ ahead ≠ []) → (s.entry r.entry).run.pending = .none →
    (post r s).queue =
      { s.queue with
        records :=
          ahead ++
            { x with
              new := r.new, newZone := r.newZone, count := min 255 (x.count + 1), latest := s.sched.time
              skipped := x.skipped || r.skipped, initial := x.initial || r.initial } :: behind } ∧
    ((post r s).entry r.entry).run =
      { (s.entry r.entry).run with skipFlag := false, base := r.new, bzone := r.newZone } ∧
    ∀ m, m ≠ r.entry → (post r s).entry m = s.entry m

/-- R62: a request that finds 32 records and nothing to fold into is deferred: PENDING and its mark change as the
table gives for every cell that arises; the queue, the entry's other values and every other entry stay. -/
def Obligations.DeferredReportFollowsTheTable : Prop :=
  ∀ (r : Request) (s : State), s.queue.records.length = 32 →
    (r.kind = .change → (s.entry r.entry).run.pending = .none → NothingToFold r.entry s.queue) →
    let e := (s.entry r.entry).run
    let becomes : Pending → Bool → Prop := fun p mark =>
      ((post r s).entry r.entry).run = { e with pending := p, overwritten := e.overwritten || mark }
    (r.kind = .change → r.initial = true → e.pending = .none → becomes .initial false) ∧
    (r.kind = .change → r.initial = false →
      (e.pending = .none → becomes .change false) ∧ (e.pending = .initial → becomes .initial false) ∧
      (e.pending = .change → becomes .change false) ∧ (e.pending = .recover → becomes .recover false)) ∧
    (r.kind = .fault →
      (e.pending = .none → becomes .fault false) ∧ (e.pending = .initial → becomes .fault true) ∧
      (e.pending = .change → becomes .fault true) ∧ (e.pending = .fault → becomes .fault false) ∧
      (e.pending = .recover → becomes .fault true)) ∧
    (r.kind = .recover →
      (e.pending = .none → becomes .recover false) ∧ (e.pending = .fault → becomes .recover true)) ∧
    (post r s).queue = s.queue ∧ ∀ m, m ≠ r.entry → (post r s).entry m = s.entry m

/-! ### The head and POP -/

/-- R56, R57, R169: a read of HEAD_INFO of a queue with a record holds the head and returns its KIND, FLAGS and
ENTRY; of an empty queue it returns 0 and holds nothing. While a head is held HEAD_SEQ to HEAD_LATEST read its fields,
and while none is they read 0. -/
def Obligations.HeadInfoReadOpensTheHead : Prop :=
  ∀ s : State, s.Settled →
    (s.queue.records = [] →
      exec .headInfoRead s = .next { s with port := { s.port with data := some 0 } }) ∧
    (∀ (r : Record) (q : List Record), s.queue.records = r :: q →
      ∃ w : Word,
        exec .headInfoRead s =
          .next { s with queue := { s.queue with held := true }, port := { s.port with data := some w } } ∧
        (w.extractLsb' 0 2).toNat = recordKindCode r.kind ∧ (w.extractLsb' 8 6).toNat = r.entry.val ∧
        w.getLsbD 4 = r.initial ∧ w.getLsbD 5 = r.skipped ∧ w.getLsbD 6 = r.deferred ∧
        w.getLsbD 7 = r.overwritten) ∧
    (s.queue.held = false →
      ∀ a ∈ ([0x0D, 0x0E, 0x0F, 0x10, 0x11, 0x12, 0x13, 0x14, 0x15, 0x16] : List Addr),
        readRegister s a = some 0) ∧
    (∀ (r : Record) (q : List Record), s.queue.held = true → s.queue.records = r :: q → r.count < 256 →
      readRegister s 0x0D = some r.seq ∧
      (∃ w, readRegister s 0x0E = some w ∧ (w.extractLsb' 0 8).toNat = r.count ∧
        (w.extractLsb' 8 2).toNat = zoneCode r.oldZone ∧ (w.extractLsb' 10 2).toNat = zoneCode r.newZone ∧
        (w.extractLsb' 12 2).toNat = failCauseCode r.cause) ∧
      readRegister s 0x0F = some (r.old.extractLsb' 16 16) ∧ readRegister s 0x10 = some (r.old.extractLsb' 0 16) ∧
      readRegister s 0x11 = some (r.new.extractLsb' 16 16) ∧ readRegister s 0x12 = some (r.new.extractLsb' 0 16) ∧
      readRegister s 0x13 = some (r.first.extractLsb' 16 16) ∧
      readRegister s 0x14 = some (r.first.extractLsb' 0 16) ∧
      readRegister s 0x15 = some (r.latest.extractLsb' 16 16) ∧
      readRegister s 0x16 = some (r.latest.extractLsb' 0 16)) ∧
    [RecordKind.change, .fault, .recover].map recordKindCode = [1, 2, 3] ∧
    [Zone.none, .low, .mid, .high].map zoneCode = [0, 1, 2, 3] ∧
    [FailCause.none, .readyTimeout, .checkMismatch].map failCauseCode = [0, 1, 2]

/-- R59, R65 to R69: a POP of a held head removes it and clears the mark. With no report pending nothing else
changes. Otherwise the drain runs: where every pending report has lapsed, each is cleared and nothing is posted; where
entry n is the lowest whose report is still owed, the lapsed ones of lower entries are cleared and n's is posted at the
tail, an INITIAL or CHANGE as a CHANGE record, with the values n holds at the POP. -/
def Obligations.PopRemovesTheHeldHeadAndDrains : Prop :=
  ∀ (v : Word) (x : Record) (q : List Record) (s : State), s.Settled → s.queue.held = true →
    s.queue.records = x :: q →
    let cleared : Entry → Entry := fun e =>
      { e with
        run :=
          { e.run with
            pending := .none
            overwritten := if e.run.pending = .none then e.run.overwritten else false } }
    ((∀ n, (s.entry n).run.pending = .none) →
      exec (.pop v) s =
        .next { s with queue := { s.queue with records := q, held := false }, port := undriven s.port }) ∧
    ((∀ n, ¬ReportOwed (s.entry n)) →
      ∃ t, exec (.pop v) s = .next t ∧ (∀ m, t.entry m = cleared (s.entry m)) ∧
        t =
          { s with
            entries := t.entries, queue := { s.queue with records := q, held := false }
            port := undriven s.port }) ∧
    ∀ n : EntryNo, ReportOwed (s.entry n) → (∀ m, m < n → ¬ReportOwed (s.entry m)) →
      let r := (s.entry n).run
      let fault : Bool := decide (r.pending = .fault)
      ∃ t, exec (.pop v) s = .next t ∧
        (∀ m, t.entry m =
          if m < n then cleared (s.entry m)
          else if m = n then
            { s.entry n with
              run :=
                { r with
                  pending := .none, overwritten := false, skipFlag := false
                  base := if fault then r.base else r.last
                  bzone := if fault then r.bzone else r.czone } }
          else s.entry m) ∧
        t.queue =
          { s.queue with
            held := false
            nextSeq := s.queue.nextSeq + 1
            records :=
              q ++
                [{ kind := if fault then .fault else if r.pending = .recover then .recover else .change
                   entry := n, seq := s.queue.nextSeq, initial := decide (r.pending = .initial)
                   skipped := r.skipFlag, deferred := true, overwritten := r.overwritten, count := 1
                   old := if fault then (if r.primed then r.last else 0) else r.base
                   new := if fault then 0 else r.last
                   oldZone := if fault then r.czone else r.bzone
                   newZone := if fault then .none else r.czone
                   cause := if fault then r.lastCause else .none
                   first := s.sched.time, latest := s.sched.time }] } ∧
        t = { s with entries := t.entries, queue := t.queue, port := undriven s.port }

/-- R60: a POP while the held mark is clear is refused: the list, the next-sequence counter and every PENDING stay,
no drain runs, ACCESS_ERR is set and ERR_INFO records POP_NOT_HELD with the offset of POP. What D15 to D0 show
afterwards is left open. -/
def Obligations.PopWithoutAnOpeningIsRefused : Prop :=
  ∀ (v : Word) (s : State), s.Settled → s.queue.held = false →
    ∃ d, exec (.pop v) s =
      .next { s with irq := withError s.irq .popNotHeld 0x2E, port := { s.port with data := d } }

/-! ### The host port -/

/-- R73, R77, R79, R163, R164: the register writes of the queue, the timebase and the interrupt unit, and the
read of TIME_HI. -/
def Obligations.RegisterAccesses : Prop :=
  ∀ (v : Word) (s : State), s.Settled →
    exec (.queueLevelWrite v) s =
      .next
        { s with
          queue := { s.queue with level := if v.toNat ≤ 32 then v.toNat else 32 }, port := undriven s.port } ∧
    exec (.ageLimitWrite v) s =
      .next { s with queue := { s.queue with ageLimit := v }, port := undriven s.port } ∧
    (v ≠ 0 →
      exec (.tickDivWrite v) s =
        .next { s with sched := { s.sched with tickDiv := v }, port := undriven s.port }) ∧
    (v = 0 →
      exec (.tickDivWrite v) s =
        .next { s with irq := withError s.irq .badTick 0x12, port := undriven s.port }) ∧
    exec (.irqCauseWrite v) s =
      .next
        { s with
          irq :=
            { s.irq with
              cmdDone := if v.getLsbD 1 then false else s.irq.cmdDone
              direct := if v.getLsbD 2 then false else s.irq.direct
              accessErr := if v.getLsbD 3 then false else s.irq.accessErr }
          port := undriven s.port } ∧
    exec (.irqEnableWrite v) s =
      .next { s with irq := { s.irq with enable := v.extractLsb' 0 4 }, port := undriven s.port } ∧
    exec .timeHiRead s =
      .next
        { s with
          port :=
            { s.port with
              timeLatch := s.sched.time.extractLsb' 0 16, data := some (s.sched.time.extractLsb' 16 16) } }

/-- R170, R171: a write to TABLE_SELECT is accepted when the index is within its table and then sets
TABLE_OFFSET to 0; otherwise it is refused with BAD_INDEX. A write to TABLE_OFFSET is taken modulo the size
of the selected image. -/
def Obligations.TableSelectAndOffset : Prop :=
  ∀ (v : Word) (s : State), s.Settled →
    let index := (v.extractLsb' 0 6).toNat
    let table := (v.extractLsb' 8 2).toNat
    (table = 0 ∨ (table = 1 ∧ index < 16) ∨ (2 ≤ table ∧ index < 4) →
      ∃ x : Selection,
        exec (.tableSelectWrite v) s =
          .next { s with port := { s.port with select := x, offset := 0, data := none } } ∧
        ((table = 0 ∧ ∃ n : EntryNo, x = .entry n ∧ n.val = index) ∨
          (table = 1 ∧ ∃ p : ProfileNo, x = .profile p ∧ p.val = index) ∨
          (table = 2 ∧ ∃ l : LaneNo, x = .lane l ∧ l.val = index) ∨
          (table = 3 ∧ ∃ k : SlotNo, x = .slot k ∧ k.val = index))) ∧
    ((table = 1 ∧ 16 ≤ index) ∨ (2 ≤ table ∧ 4 ≤ index) →
      exec (.tableSelectWrite v) s =
        .next { s with irq := withError s.irq .badIndex 0x30, port := undriven s.port }) ∧
    ∃ t, exec (.tableOffsetWrite v) s = .next t ∧
      t.port.offset.toNat = index % imageSize s.port.select ∧
      t = { s with port := { s.port with offset := t.port.offset, data := none } }

/-- R171, R172: a read of TABLE_DATA of any record advances the offset, wrapping at the image's end. The runtime
STATUS word of an entry and the STATE word of a lane latch their snapshot and return its first word; the other
latched words come from the snapshot, whatever entry or lane is selected; every other word is live. Nothing but
the host port's own items (and the model's free-value counter, log entry 12, at a lane's latch) changes. -/
def Obligations.TableDataReadLatchesAndAdvances : Prop :=
  ∀ s : State, s.Settled →
    let i := s.port.offset.toNat
    ∃ t, exec .tableDataRead s = .next t ∧
      t.port =
        { s.port with
          offset := BitVec.ofNat 6 ((i + 1) % imageSize s.port.select), entrySnap := t.port.entrySnap
          laneSnap := t.port.laneSnap, data := t.port.data } ∧
      t = { s with port := t.port, freeCount := t.freeCount } ∧
      (∀ n, s.port.select = .entry n →
        t.port.laneSnap = s.port.laneSnap ∧ t.freeCount = s.freeCount ∧
        (i = 0x20 →
          t.port.entrySnap = entryRuntimeWords (s.entry n).run ∧
          t.port.data = some ((entryRuntimeWords (s.entry n).run)[0]'(by decide))) ∧
        (i ≠ 0x20 → t.port.entrySnap = s.port.entrySnap) ∧
        (∀ j, ∀ h : j < Config.entrySnapSize, 1 ≤ j → i = 0x20 + j → t.port.data = some s.port.entrySnap[j]) ∧
        (i < 0x20 ∨ 0x27 < i → t.port.data = some (entryConfigWord (s.entry n).cfg i))) ∧
      (∀ l, s.port.select = .lane l →
        t.port.entrySnap = s.port.entrySnap ∧
        (i = 0x01 →
          (∃ free, t.port.laneSnap = laneStateWords (s.lane l) free) ∧
          t.port.data = some (t.port.laneSnap[0]'(by decide))) ∧
        (i ≠ 0x01 → t.port.laneSnap = s.port.laneSnap) ∧
        (∀ j, ∀ h : j < Config.laneSnapSize, 1 ≤ j → i = 0x01 + j → t.port.data = some s.port.laneSnap[j]) ∧
        (i = 0 → t.port.data = some (laneConfigWord (s.lane l))) ∧
        (0x13 < i → t.port.data = some 0)) ∧
      (∀ p, s.port.select = .profile p →
        t.port.entrySnap = s.port.entrySnap ∧ t.port.laneSnap = s.port.laneSnap ∧
          t.port.data = some (profileWord (s.profile p) i)) ∧
      ∀ k, s.port.select = .slot k →
        t.port.entrySnap = s.port.entrySnap ∧ t.port.laneSnap = s.port.laneSnap ∧
          t.port.data = some (slotWord (s.slot k) i)

/-- R21, R106, R110, R144, R165, R171: a write to a configuration or request word is applied while its owner allows
it (an entry in OFF, a profile with USE_COUNT 0, a HELD lane, a FREE slot) and ignored with TABLE_LOCKED otherwise;
a write to a runtime, state, status or result word is ignored with READ_ONLY, and to an unassigned word without an
error. TABLE_OFFSET advances in every case. -/
def Obligations.TableDataWriteObeysTheLocks : Prop :=
  ∀ (v : Word) (s : State), s.Settled →
    let i := s.port.offset.toNat
    ∃ t, exec (.tableDataWrite v) s = .next t ∧
      t.port =
        { s.port with offset := BitVec.ofNat 6 ((i + 1) % imageSize s.port.select), data := none } ∧
      (let ignored : ErrCode → Prop := fun code => t = { s with irq := withError s.irq code 0x34, port := t.port }
      (∀ n, s.port.select = .entry n →
        (i ≤ 0x19 → (s.entry n).run.state = .off →
          t = { s.setEntry n { s.entry n with cfg := writeEntryConfig i v (s.entry n).cfg } with port := t.port }) ∧
        (i ≤ 0x19 → (s.entry n).run.state ≠ .off → ignored .tableLocked) ∧
        (0x20 ≤ i → i ≤ 0x27 → ignored .readOnly) ∧
        ((0x1A ≤ i ∧ i ≤ 0x1F) ∨ 0x28 ≤ i → t = { s with port := t.port })) ∧
      (∀ p, s.port.select = .profile p →
        (i ≤ 0x05 → (s.profile p).useCount = 0 →
          t = { s.setProfile p (writeProfileConfig i v (s.profile p)) with port := t.port }) ∧
        (i ≤ 0x05 → (s.profile p).useCount ≠ 0 → ignored .tableLocked) ∧
        (i = 0x06 → ignored .readOnly) ∧
        (0x07 ≤ i → t = { s with port := t.port })) ∧
      (∀ l, s.port.select = .lane l →
        (i = 0 → (s.lane l).mode = .held →
          t = { s.setLane l (writeLaneConfig v (s.lane l)) with port := t.port }) ∧
        (i = 0 → (s.lane l).mode ≠ .held → ignored .tableLocked) ∧
        (1 ≤ i → i ≤ 0x13 → ignored .readOnly) ∧
        (0x14 ≤ i → t = { s with port := t.port })) ∧
      ∀ k, s.port.select = .slot k →
        (i = 0 ∨ (0x08 ≤ i ∧ i ≤ 0x17) → (s.slot k).state = .free →
          t =
            { s.setSlot k { s.slot k with req := writeSlotRequest i v (s.slot k).req } with port := t.port }) ∧
        (i = 0 ∨ (0x08 ≤ i ∧ i ≤ 0x17) → (s.slot k).state ≠ .free → ignored .tableLocked) ∧
        (i = 1 ∨ i = 2 ∨ (0x18 ≤ i ∧ i ≤ 0x27) → ignored .readOnly) ∧
        ((3 ≤ i ∧ i ≤ 7) ∨ 0x28 ≤ i → t = { s with port := t.port }))

/-- R2, R21, R94, R106, R110, R144, R173: a configuration word of an entry, a profile, a lane or a slot reads back
as written, but for bits the layout leaves unassigned, which read 0, and a MIN_DESELECT of 0, which is stored as 1;
the other configuration words of the record keep their values. -/
def Obligations.ConfigurationReadsBackAsWritten : Prop :=
  (∀ (i j : Nat) (w : Word) (c : EntryConfig), i ≤ 0x19 → j ≤ 0x19 →
    entryConfigWord (writeEntryConfig i w c) j =
      if j = i then
        w &&& (if i = 0x00 then 0x0FFF else if i = 0x01 then 0x0377 else if i = 0x02 then 0x3F3F else 0xFFFF)
      else entryConfigWord c j) ∧
  (∀ (i j : Nat) (w : Word) (p : Profile), i ≤ 0x05 → j ≤ 0x06 →
    profileWord (writeProfileConfig i w p) j =
      if j = i then
        w &&&
          (if i = 0x00 then 0x037F else if i = 0x01 then 0x0FFF else if i = 0x02 then 0x1F1F
            else if i = 0x03 then 0x00FF else if i = 0x04 then 0x03FF else 0x000F)
      else profileWord p j) ∧
  (∀ (w : Word) (L : Lane),
    laneConfigWord (writeLaneConfig w L) =
      (w &&& 0xFF0F) ||| (if w.extractLsb' 8 8 = 0 then 0x0100 else 0)) ∧
  ∀ (i j : Nat) (w : Word) (x : Slot), i = 0 ∨ (0x08 ≤ i ∧ i ≤ 0x17) → j ≤ 0x27 →
    slotWord { x with req := writeSlotRequest i w x.req } j =
      if j = i then w &&& (if i = 0x00 then 0x1FFF else 0xFFFF) else slotWord x j

/-- R167, R165: a write to a read-only register is ignored with READ_ONLY and the register's offset; a write
to an unassigned offset is ignored without an error. -/
def Obligations.RegisterWriteIsIgnored : Prop :=
  ∀ (a : Addr) (v : Word) (s : State), s.Settled →
    (a ∈ readOnlyAddrs →
      exec (.registerWrite a v) s =
        .next
          { s with irq := withError s.irq .readOnly (BitVec.ofNat 8 (2 * a.toNat)), port := undriven s.port }) ∧
    (a ∈ unassignedAddrs → exec (.registerWrite a v) s = .next { s with port := undriven s.port })

/-- R74, R163, R164: the QUEUE cause is active while the level term or the age term holds, and IRQ# is low exactly
while RESET# is high and a cause that is active is enabled. R158, R165, R167, R169: STATUS, COMMAND, CMD_RESULT,
ERR_INFO, DIRECT_STATE and LANE_STATE read the state of their blocks in the encodings shown; and every read drives what
`readRegister` says, a read without an effect changing nothing else (log entry 24). -/
def Obligations.InterruptLineFollowsItsCauses : Prop :=
  ∀ s : State, s.inReset = false → s.sched.dues = [] →
    ∃ w, readRegister s 0x05 = some w ∧ w.toNat < 16 ∧
      (w.getLsbD 0 = true ↔
        (s.queue.level ≠ 0 ∧ s.queue.level ≤ s.queue.records.length) ∨
          ∃ r q, s.queue.records = r :: q ∧ s.queue.ageLimit ≠ 0 ∧
            s.queue.ageLimit.toNat ≤ (s.sched.time - r.first).toNat) ∧
      w.getLsbD 1 = s.irq.cmdDone ∧ w.getLsbD 2 = s.irq.direct ∧ w.getLsbD 3 = s.irq.accessErr ∧
      (s.irqLow = true ↔ ∃ i, i < 4 ∧ w.getLsbD i = true ∧ s.irq.enable.getLsbD i = true) ∧
      (∃ u, readRegister s 0x02 = some u ∧ u.getLsbD 0 = s.sched.running ∧
        u.getLsbD 1 = s.cmd.inFlight.isSome ∧ u.getLsbD 2 = s.queue.held ∧
        (u.getLsbD 3 = true ↔ ∃ n, (s.entry n).run.pending ≠ .none) ∧
        (s.queue.records.length ≤ 32 → (u.extractLsb' 8 6).toNat = s.queue.records.length)) ∧
      readRegister s 0x03 = some s.cmd.command ∧
      (∃ u, readRegister s 0x04 = some u ∧ (u.extractLsb' 0 4).toNat = cmdResultCode s.cmd.result ∧
        u.getLsbD 8 = s.cmd.endedReset) ∧
      (∃ u, readRegister s 0x1B = some u ∧ u.extractLsb' 0 8 = s.irq.errOffset ∧
        (u.extractLsb' 8 4).toNat = errCodeCode s.irq.errCode) ∧
      (∃ u, readRegister s 0x1C = some u ∧
        ∀ k : SlotNo, (u.extractLsb' (4 * k.val) 3).toNat = slotStateCode (s.slot k).state) ∧
      (∃ u, readRegister s 0x1D = some u ∧
        ∀ l : LaneNo, (u.extractLsb' (4 * l.val) 2).toNat = laneModeCode (s.lane l).mode ∧
          u.getLsbD (4 * l.val + 2) = decide ((s.lane l).phase ≠ .idle)) ∧
      [CmdResult.ok, .badArg, .badState, .badConfig, .tooLate, .unknown].map cmdResultCode = [0, 1, 2, 3, 4, 5] ∧
      [ErrCode.none, .tableLocked, .readOnly, .popNotHeld, .cmdBusy, .badTick, .badIndex].map errCodeCode =
        [0, 1, 2, 3, 4, 5, 6] ∧
      [SlotState.free, .queued, .running, .done, .failed, .cancelled].map slotStateCode = [0, 1, 2, 3, 4, 5] ∧
      [LaneMode.running, .holdPending, .held].map laneModeCode = [0, 1, 2] ∧
      ∀ a : Addr, ∃ t, hostCycle (.read a) s = .next t ∧ t.port.data = readRegister s a ∧
        (a ∉ ([0x0A, 0x0C, 0x1A] : List Addr) → t = { s with port := { s.port with data := t.port.data } })

/-- R157, R167, R168, R169: every host cycle that reaches a row reaches a well-formed one, and the row's own cycle is
that cycle: no bit of an address, a command code, an argument or a value is dropped. Every write reaches a row. -/
def Obligations.HostCyclesDecodeToTheirRow : Prop :=
  (∀ (b : BusCycle) (c : Instr), decodeCycle b = some c → c.wellFormed = true ∧ encodeCycle c = some b) ∧
  ∀ (a : Addr) (v : Word), ∃ c, decodeCycle (.write a v) = some c

/-! ### Laws of the whole part -/

/-- R168, the column of power-on values: what the registers read right after reset (log entry 2 says which state
that is); and every law of Safety.lean holds there. -/
def Obligations.RegistersAndLawsRightAfterReset : Prop :=
  (∀ x ∈ ([(0x00, 0x2460), (0x01, 0x0003), (0x02, 0), (0x03, 0), (0x04, 0), (0x05, 0), (0x06, 0), (0x07, 0x0001),
      (0x08, 0), (0x09, 0x0064), (0x0A, 0), (0x0B, 0), (0x0C, 0), (0x0D, 0), (0x0E, 0), (0x0F, 0), (0x10, 0),
      (0x11, 0), (0x12, 0), (0x13, 0), (0x14, 0), (0x15, 0), (0x16, 0), (0x17, 0), (0x18, 0), (0x19, 0),
      (0x1B, 0), (0x1C, 0), (0x1D, 0x2222), (0x1E, 0), (0x1F, 0)] : List (Addr × Word)),
    readRegister State.reset x.1 = some x.2) ∧
  QueueLaw State.reset ∧ PendingLaw State.reset ∧ LaneLaw State.reset ∧ UseLaw State.reset ∧
    UsedValidLaw State.reset ∧ CounterLaw State.reset ∧ MembershipLaw State.reset ∧ OwnerLaw State.reset ∧
    FlightLaw State.reset

/-- R45, R48, R49, R56: every step keeps the Change Queue's law. -/
def Obligations.StepKeepsTheChangeQueue : Prop :=
  ∀ s t : State, QueueLaw s → step s = .next t → QueueLaw t

/-- R61, R63: every step keeps the law of pending reports. -/
def Obligations.StepKeepsPendingReports : Prop :=
  ∀ s t : State, PendingLaw s → step s = .next t → PendingLaw t

/-- R109, R110, R112, R116, R118: every step keeps the bounds of the lanes; R8, R84, R90, R133: the ranges of the
entries' counters; R104: a profile whose USE_COUNT is above 0 stays valid. -/
def Obligations.StepKeepsTheBounds : Prop :=
  ∀ s t : State, step s = .next t →
    (LaneLaw s → LaneLaw t) ∧ (CounterLaw s → CounterLaw t) ∧ (UsedValidLaw s → UsedValidLaw t)

/-- R9, R105, R116, R143, R145: every step keeps the lane queues and the submission list as the lists of the
QUEUED entries and slots, and every USE_COUNT as the number of its users. -/
def Obligations.StepKeepsMembershipAndUseCounts : Prop :=
  ∀ s t : State, MembershipLaw s ∧ UseLaw s → step s = .next t → MembershipLaw t ∧ UseLaw t

/-- R9, R109, R116: every step keeps the owners of the transactions in flight: exactly the ACTIVE and STOPPING
entries and the RUNNING slots, each on the lane it names. -/
def Obligations.StepKeepsTheOwners : Prop :=
  ∀ s t : State, MembershipLaw s ∧ OwnerLaw s → step s = .next t → OwnerLaw t

/-- R13, R19, R113, R159: every step keeps STOPPING entries and HOLD_PENDING lanes as the marks of the
command in flight. -/
def Obligations.StepKeepsTheCommandInFlight : Prop :=
  ∀ s t : State, MembershipLaw s ∧ FlightLaw s → step s = .next t → FlightLaw t

/-- R13, R113: under the laws of the lanes and of the command in flight no command meets a state the rules
exclude. -/
def Obligations.NoCommandFaults : Prop :=
  ∀ (c : Instr) (s : State) (f : Fault), MembershipLaw s → FlightLaw s → LaneLaw s → exec c s ≠ .fault f
end

