-- ==== Sys2Proof/Laws/Decode.lean ====
section
/-! SUPPORT. The decode of host cycles: command words and their two bytes, and which row a written word
address reaches. -/

namespace Sys2Proof

theorem commandWord_code (code arg : Byte) : (commandWord code arg).extractLsb' 8 8 = code := by
  ext i hi
  simp only [commandWord, BitVec.getElem_extractLsb', BitVec.getLsbD_append]
  simp [show ¬ 8 + i < 8 by omega, show 8 + i - 8 = i by omega, hi]

theorem commandWord_arg (code arg : Byte) : (commandWord code arg).extractLsb' 0 8 = arg := by
  ext i hi
  simp only [commandWord, BitVec.getElem_extractLsb', BitVec.getLsbD_append]
  simp [hi]

theorem commandWord_bytes (w : Word) : commandWord (w.extractLsb' 8 8) (w.extractLsb' 0 8) = w := by
  refine BitVec.eq_of_getLsbD_eq fun i hi => ?_
  simp only [commandWord, BitVec.getLsbD_append, BitVec.getLsbD_extractLsb']
  by_cases h : i < 8
  · simp [h]
  · simp [h, show i - 8 < 8 by omega, show 8 + (i - 8) = i by omega]

/-- The row of a word, by its code. -/
theorem commandOf_cases (w : Word) :
    (commandOf w = .unknownCommand w ∧ w.extractLsb' 8 8 ∉ definedCodes) ∨
    (encodeCycle (commandOf w) = some (.write 0x03 w) ∧ w.extractLsb' 8 8 ∈ definedCodes ∧
      commandOf w ≠ .unknownCommand w ∧ (commandOf w).wellFormed = true) := by
  have hw := commandWord_bytes w
  generalize hc : w.extractLsb' 8 8 = code at hw
  generalize ha : w.extractLsb' 0 8 = arg at hw
  simp only [commandOf, hc, ha]
  have hn : ∀ k : Nat, ∀ h : k < 256, code.toNat = k → code = BitVec.ofNat 8 k := by
    intro k h e
    exact BitVec.eq_of_toNat_eq (by simp [e, Nat.mod_eq_of_lt h])
  split
  case h_14 h1 h2 h3 h4 h5 h6 h7 h8 h9 h10 h11 h12 h13 =>
    refine .inl ⟨rfl, fun hm => ?_⟩
    simp only [definedCodes, List.mem_cons, List.not_mem_nil, or_false] at hm
    rcases hm with e | e | e | e | e | e | e | e | e | e | e | e | e <;> subst e
    · exact h1 rfl
    · exact h2 rfl
    · exact h3 rfl
    · exact h4 rfl
    · exact h5 rfl
    · exact h6 rfl
    · exact h7 rfl
    · exact h8 rfl
    · exact h9 rfl
    · exact h10 rfl
    · exact h11 rfl
    · exact h12 rfl
    · exact h13 rfl
  all_goals
    next e =>
      have := hn _ (by omega) e
      subst this
      refine .inr ⟨?_, by decide, by simp, rfl⟩
      rw [← hw]
      rfl

theorem commandOf_undefined {w : Word} (h : w.extractLsb' 8 8 ∉ definedCodes) :
    commandOf w = .unknownCommand w := by
  rcases commandOf_cases w with h' | h'
  · exact h'.1
  · exact absurd h'.2.1 h

theorem commandOf_commandWord (code arg : Byte) :
    commandOf (commandWord code arg) =
      match code.toNat with
      | 0x01 => .startScan arg
      | 0x02 => .stopScan arg
      | 0x10 => .entryEnable arg
      | 0x11 => .entryStop arg
      | 0x12 => .entryRearm arg
      | 0x20 => .laneHold arg
      | 0x21 => .laneRelease arg
      | 0x22 => .laneReset arg
      | 0x30 => .directSubmit arg
      | 0x31 => .directCancel arg
      | 0x32 => .directRelease arg
      | 0x40 => .queueFlush arg
      | 0x7F => .softReset arg
      | _ => .unknownCommand (commandWord code arg) := by
  have h : commandOf (commandWord code arg) = commandOf (commandWord code arg) := rfl
  conv_rhs at h => unfold commandOf
  rw [commandWord_code, commandWord_arg] at h
  exact h

/-- A write to a read-only or unassigned register is its own row; to no other. -/
theorem decodeWrite_registerWrite (a : Addr) (v : Word) :
    decodeWrite a v = .registerWrite a v ↔ a ∈ readOnlyAddrs ++ unassignedAddrs := by
  have hreg : ∀ a : Addr,
      (a ∈ readOnlyAddrs ++ unassignedAddrs) =
        (regAt a ∈ [Reg.deviceId, .deviceRev, .status, .cmdResult, .timeHi, .timeLo, .headInfo, .headSeq,
          .headCount, .headOldHi, .headOldLo, .headNewHi, .headNewLo, .headFirstHi, .headFirstLo,
          .headLatestHi, .headLatestLo, .errInfo, .directState, .laneState, .unassigned] : Prop) := by
    decide
  rw [hreg, decodeWrite]
  cases regAt a <;> simp
  rcases commandOf_cases v with h | h
  · rw [h.1]; simp
  · intro e
    have h1 := h.1
    rw [e] at h1
    simp only [encodeCycle, Option.some.injEq, BusCycle.write.injEq] at h1
    have hwf := h.2.2.2
    rw [e, h1.1] at hwf
    simp [Instr.wellFormed, readOnlyAddrs, unassignedAddrs] at hwf

end Sys2Proof
end

