-- ==== Sys2Proof/Laws/State.lean ====
section
/-! SUPPORT. What each update leaves unchanged, field by field, and what reading a table after writing it
gives. -/

namespace Sys2Proof.Machine

variable (s : State)

/-! ### One lemma for each field an update leaves alone -/

@[simp] theorem setEntry_profiles (n : EntryNo) (e : Entry) : (s.setEntry n e).profiles = s.profiles := rfl
@[simp] theorem setEntry_lanes (n : EntryNo) (e : Entry) : (s.setEntry n e).lanes = s.lanes := rfl
@[simp] theorem setEntry_direct (n : EntryNo) (e : Entry) : (s.setEntry n e).direct = s.direct := rfl
@[simp] theorem setEntry_sched (n : EntryNo) (e : Entry) : (s.setEntry n e).sched = s.sched := rfl
@[simp] theorem setEntry_queue (n : EntryNo) (e : Entry) : (s.setEntry n e).queue = s.queue := rfl
@[simp] theorem setEntry_cmd (n : EntryNo) (e : Entry) : (s.setEntry n e).cmd = s.cmd := rfl
@[simp] theorem setEntry_irq (n : EntryNo) (e : Entry) : (s.setEntry n e).irq = s.irq := rfl
@[simp] theorem setEntry_port (n : EntryNo) (e : Entry) : (s.setEntry n e).port = s.port := rfl
@[simp] theorem setEntry_inReset (n : EntryNo) (e : Entry) : (s.setEntry n e).inReset = s.inReset := rfl
@[simp] theorem setEntry_pending (n : EntryNo) (e : Entry) : (s.setEntry n e).pending = s.pending := rfl
@[simp] theorem setEntry_freeCount (n : EntryNo) (e : Entry) : (s.setEntry n e).freeCount = s.freeCount := rfl

@[simp] theorem modRun_profiles (n : EntryNo) (f : EntryRun → EntryRun) : (s.modRun n f).profiles = s.profiles := rfl
@[simp] theorem modRun_lanes (n : EntryNo) (f : EntryRun → EntryRun) : (s.modRun n f).lanes = s.lanes := rfl
@[simp] theorem modRun_direct (n : EntryNo) (f : EntryRun → EntryRun) : (s.modRun n f).direct = s.direct := rfl
@[simp] theorem modRun_sched (n : EntryNo) (f : EntryRun → EntryRun) : (s.modRun n f).sched = s.sched := rfl
@[simp] theorem modRun_queue (n : EntryNo) (f : EntryRun → EntryRun) : (s.modRun n f).queue = s.queue := rfl
@[simp] theorem modRun_cmd (n : EntryNo) (f : EntryRun → EntryRun) : (s.modRun n f).cmd = s.cmd := rfl
@[simp] theorem modRun_irq (n : EntryNo) (f : EntryRun → EntryRun) : (s.modRun n f).irq = s.irq := rfl
@[simp] theorem modRun_port (n : EntryNo) (f : EntryRun → EntryRun) : (s.modRun n f).port = s.port := rfl
@[simp] theorem modRun_inReset (n : EntryNo) (f : EntryRun → EntryRun) : (s.modRun n f).inReset = s.inReset := rfl
@[simp] theorem modRun_pending (n : EntryNo) (f : EntryRun → EntryRun) : (s.modRun n f).pending = s.pending := rfl
@[simp] theorem modRun_freeCount (n : EntryNo) (f : EntryRun → EntryRun) : (s.modRun n f).freeCount = s.freeCount := rfl

@[simp] theorem mapRuns_profiles (f : Entry → EntryRun) : (s.mapRuns f).profiles = s.profiles := rfl
@[simp] theorem mapRuns_lanes (f : Entry → EntryRun) : (s.mapRuns f).lanes = s.lanes := rfl
@[simp] theorem mapRuns_direct (f : Entry → EntryRun) : (s.mapRuns f).direct = s.direct := rfl
@[simp] theorem mapRuns_sched (f : Entry → EntryRun) : (s.mapRuns f).sched = s.sched := rfl
@[simp] theorem mapRuns_queue (f : Entry → EntryRun) : (s.mapRuns f).queue = s.queue := rfl
@[simp] theorem mapRuns_cmd (f : Entry → EntryRun) : (s.mapRuns f).cmd = s.cmd := rfl
@[simp] theorem mapRuns_irq (f : Entry → EntryRun) : (s.mapRuns f).irq = s.irq := rfl
@[simp] theorem mapRuns_port (f : Entry → EntryRun) : (s.mapRuns f).port = s.port := rfl
@[simp] theorem mapRuns_inReset (f : Entry → EntryRun) : (s.mapRuns f).inReset = s.inReset := rfl
@[simp] theorem mapRuns_pending (f : Entry → EntryRun) : (s.mapRuns f).pending = s.pending := rfl
@[simp] theorem mapRuns_freeCount (f : Entry → EntryRun) : (s.mapRuns f).freeCount = s.freeCount := rfl

@[simp] theorem setProfile_entries (p : ProfileNo) (x : Profile) : (s.setProfile p x).entries = s.entries := rfl
@[simp] theorem setProfile_lanes (p : ProfileNo) (x : Profile) : (s.setProfile p x).lanes = s.lanes := rfl
@[simp] theorem setProfile_direct (p : ProfileNo) (x : Profile) : (s.setProfile p x).direct = s.direct := rfl
@[simp] theorem setProfile_sched (p : ProfileNo) (x : Profile) : (s.setProfile p x).sched = s.sched := rfl
@[simp] theorem setProfile_queue (p : ProfileNo) (x : Profile) : (s.setProfile p x).queue = s.queue := rfl
@[simp] theorem setProfile_cmd (p : ProfileNo) (x : Profile) : (s.setProfile p x).cmd = s.cmd := rfl
@[simp] theorem setProfile_irq (p : ProfileNo) (x : Profile) : (s.setProfile p x).irq = s.irq := rfl
@[simp] theorem setProfile_port (p : ProfileNo) (x : Profile) : (s.setProfile p x).port = s.port := rfl
@[simp] theorem setProfile_inReset (p : ProfileNo) (x : Profile) : (s.setProfile p x).inReset = s.inReset := rfl
@[simp] theorem setProfile_pending (p : ProfileNo) (x : Profile) : (s.setProfile p x).pending = s.pending := rfl
@[simp] theorem setProfile_freeCount (p : ProfileNo) (x : Profile) : (s.setProfile p x).freeCount = s.freeCount := rfl

@[simp] theorem setLane_entries (l : LaneNo) (x : Lane) : (s.setLane l x).entries = s.entries := rfl
@[simp] theorem setLane_profiles (l : LaneNo) (x : Lane) : (s.setLane l x).profiles = s.profiles := rfl
@[simp] theorem setLane_direct (l : LaneNo) (x : Lane) : (s.setLane l x).direct = s.direct := rfl
@[simp] theorem setLane_sched (l : LaneNo) (x : Lane) : (s.setLane l x).sched = s.sched := rfl
@[simp] theorem setLane_queue (l : LaneNo) (x : Lane) : (s.setLane l x).queue = s.queue := rfl
@[simp] theorem setLane_cmd (l : LaneNo) (x : Lane) : (s.setLane l x).cmd = s.cmd := rfl
@[simp] theorem setLane_irq (l : LaneNo) (x : Lane) : (s.setLane l x).irq = s.irq := rfl
@[simp] theorem setLane_port (l : LaneNo) (x : Lane) : (s.setLane l x).port = s.port := rfl
@[simp] theorem setLane_inReset (l : LaneNo) (x : Lane) : (s.setLane l x).inReset = s.inReset := rfl
@[simp] theorem setLane_pending (l : LaneNo) (x : Lane) : (s.setLane l x).pending = s.pending := rfl
@[simp] theorem setLane_freeCount (l : LaneNo) (x : Lane) : (s.setLane l x).freeCount = s.freeCount := rfl

@[simp] theorem modLane_entries (l : LaneNo) (f : Lane → Lane) : (s.modLane l f).entries = s.entries := rfl
@[simp] theorem modLane_profiles (l : LaneNo) (f : Lane → Lane) : (s.modLane l f).profiles = s.profiles := rfl
@[simp] theorem modLane_direct (l : LaneNo) (f : Lane → Lane) : (s.modLane l f).direct = s.direct := rfl
@[simp] theorem modLane_sched (l : LaneNo) (f : Lane → Lane) : (s.modLane l f).sched = s.sched := rfl
@[simp] theorem modLane_queue (l : LaneNo) (f : Lane → Lane) : (s.modLane l f).queue = s.queue := rfl
@[simp] theorem modLane_cmd (l : LaneNo) (f : Lane → Lane) : (s.modLane l f).cmd = s.cmd := rfl
@[simp] theorem modLane_irq (l : LaneNo) (f : Lane → Lane) : (s.modLane l f).irq = s.irq := rfl
@[simp] theorem modLane_port (l : LaneNo) (f : Lane → Lane) : (s.modLane l f).port = s.port := rfl
@[simp] theorem modLane_inReset (l : LaneNo) (f : Lane → Lane) : (s.modLane l f).inReset = s.inReset := rfl
@[simp] theorem modLane_pending (l : LaneNo) (f : Lane → Lane) : (s.modLane l f).pending = s.pending := rfl
@[simp] theorem modLane_freeCount (l : LaneNo) (f : Lane → Lane) : (s.modLane l f).freeCount = s.freeCount := rfl

@[simp] theorem setSlot_entries (k : SlotNo) (x : Slot) : (s.setSlot k x).entries = s.entries := rfl
@[simp] theorem setSlot_profiles (k : SlotNo) (x : Slot) : (s.setSlot k x).profiles = s.profiles := rfl
@[simp] theorem setSlot_lanes (k : SlotNo) (x : Slot) : (s.setSlot k x).lanes = s.lanes := rfl
@[simp] theorem setSlot_sched (k : SlotNo) (x : Slot) : (s.setSlot k x).sched = s.sched := rfl
@[simp] theorem setSlot_queue (k : SlotNo) (x : Slot) : (s.setSlot k x).queue = s.queue := rfl
@[simp] theorem setSlot_cmd (k : SlotNo) (x : Slot) : (s.setSlot k x).cmd = s.cmd := rfl
@[simp] theorem setSlot_irq (k : SlotNo) (x : Slot) : (s.setSlot k x).irq = s.irq := rfl
@[simp] theorem setSlot_port (k : SlotNo) (x : Slot) : (s.setSlot k x).port = s.port := rfl
@[simp] theorem setSlot_inReset (k : SlotNo) (x : Slot) : (s.setSlot k x).inReset = s.inReset := rfl
@[simp] theorem setSlot_pending (k : SlotNo) (x : Slot) : (s.setSlot k x).pending = s.pending := rfl
@[simp] theorem setSlot_freeCount (k : SlotNo) (x : Slot) : (s.setSlot k x).freeCount = s.freeCount := rfl

@[simp] theorem accessError_entries (c : ErrCode) (o : Byte) : (accessError c o s).entries = s.entries := rfl
@[simp] theorem accessError_profiles (c : ErrCode) (o : Byte) : (accessError c o s).profiles = s.profiles := rfl
@[simp] theorem accessError_lanes (c : ErrCode) (o : Byte) : (accessError c o s).lanes = s.lanes := rfl
@[simp] theorem accessError_direct (c : ErrCode) (o : Byte) : (accessError c o s).direct = s.direct := rfl
@[simp] theorem accessError_sched (c : ErrCode) (o : Byte) : (accessError c o s).sched = s.sched := rfl
@[simp] theorem accessError_queue (c : ErrCode) (o : Byte) : (accessError c o s).queue = s.queue := rfl
@[simp] theorem accessError_cmd (c : ErrCode) (o : Byte) : (accessError c o s).cmd = s.cmd := rfl
@[simp] theorem accessError_port (c : ErrCode) (o : Byte) : (accessError c o s).port = s.port := rfl
@[simp] theorem accessError_inReset (c : ErrCode) (o : Byte) : (accessError c o s).inReset = s.inReset := rfl
@[simp] theorem accessError_pending (c : ErrCode) (o : Byte) : (accessError c o s).pending = s.pending := rfl
@[simp] theorem accessError_freeCount (c : ErrCode) (o : Byte) : (accessError c o s).freeCount = s.freeCount := rfl

@[simp] theorem raiseUse_entries (p : ProfileNo) : (raiseUse p s).entries = s.entries := rfl
@[simp] theorem raiseUse_lanes (p : ProfileNo) : (raiseUse p s).lanes = s.lanes := rfl
@[simp] theorem raiseUse_direct (p : ProfileNo) : (raiseUse p s).direct = s.direct := rfl
@[simp] theorem raiseUse_sched (p : ProfileNo) : (raiseUse p s).sched = s.sched := rfl
@[simp] theorem raiseUse_queue (p : ProfileNo) : (raiseUse p s).queue = s.queue := rfl
@[simp] theorem raiseUse_cmd (p : ProfileNo) : (raiseUse p s).cmd = s.cmd := rfl
@[simp] theorem raiseUse_irq (p : ProfileNo) : (raiseUse p s).irq = s.irq := rfl
@[simp] theorem raiseUse_port (p : ProfileNo) : (raiseUse p s).port = s.port := rfl
@[simp] theorem raiseUse_inReset (p : ProfileNo) : (raiseUse p s).inReset = s.inReset := rfl
@[simp] theorem raiseUse_pending (p : ProfileNo) : (raiseUse p s).pending = s.pending := rfl
@[simp] theorem raiseUse_freeCount (p : ProfileNo) : (raiseUse p s).freeCount = s.freeCount := rfl

@[simp] theorem dropUse_entries (p : ProfileNo) : (dropUse p s).entries = s.entries := rfl
@[simp] theorem dropUse_lanes (p : ProfileNo) : (dropUse p s).lanes = s.lanes := rfl
@[simp] theorem dropUse_direct (p : ProfileNo) : (dropUse p s).direct = s.direct := rfl
@[simp] theorem dropUse_sched (p : ProfileNo) : (dropUse p s).sched = s.sched := rfl
@[simp] theorem dropUse_queue (p : ProfileNo) : (dropUse p s).queue = s.queue := rfl
@[simp] theorem dropUse_cmd (p : ProfileNo) : (dropUse p s).cmd = s.cmd := rfl
@[simp] theorem dropUse_irq (p : ProfileNo) : (dropUse p s).irq = s.irq := rfl
@[simp] theorem dropUse_port (p : ProfileNo) : (dropUse p s).port = s.port := rfl
@[simp] theorem dropUse_inReset (p : ProfileNo) : (dropUse p s).inReset = s.inReset := rfl
@[simp] theorem dropUse_pending (p : ProfileNo) : (dropUse p s).pending = s.pending := rfl
@[simp] theorem dropUse_freeCount (p : ProfileNo) : (dropUse p s).freeCount = s.freeCount := rfl

@[simp] theorem reachOff_lanes (n : EntryNo) : (reachOff n s).lanes = s.lanes := rfl
@[simp] theorem reachOff_direct (n : EntryNo) : (reachOff n s).direct = s.direct := rfl
@[simp] theorem reachOff_sched (n : EntryNo) : (reachOff n s).sched = s.sched := rfl
@[simp] theorem reachOff_queue (n : EntryNo) : (reachOff n s).queue = s.queue := rfl
@[simp] theorem reachOff_cmd (n : EntryNo) : (reachOff n s).cmd = s.cmd := rfl
@[simp] theorem reachOff_irq (n : EntryNo) : (reachOff n s).irq = s.irq := rfl
@[simp] theorem reachOff_port (n : EntryNo) : (reachOff n s).port = s.port := rfl
@[simp] theorem reachOff_inReset (n : EntryNo) : (reachOff n s).inReset = s.inReset := rfl
@[simp] theorem reachOff_pending (n : EntryNo) : (reachOff n s).pending = s.pending := rfl
@[simp] theorem reachOff_freeCount (n : EntryNo) : (reachOff n s).freeCount = s.freeCount := rfl

@[simp] theorem appendRecord_entries (x : Record) : (appendRecord x s).entries = s.entries := rfl
@[simp] theorem appendRecord_profiles (x : Record) : (appendRecord x s).profiles = s.profiles := rfl
@[simp] theorem appendRecord_lanes (x : Record) : (appendRecord x s).lanes = s.lanes := rfl
@[simp] theorem appendRecord_direct (x : Record) : (appendRecord x s).direct = s.direct := rfl
@[simp] theorem appendRecord_sched (x : Record) : (appendRecord x s).sched = s.sched := rfl
@[simp] theorem appendRecord_cmd (x : Record) : (appendRecord x s).cmd = s.cmd := rfl
@[simp] theorem appendRecord_irq (x : Record) : (appendRecord x s).irq = s.irq := rfl
@[simp] theorem appendRecord_port (x : Record) : (appendRecord x s).port = s.port := rfl
@[simp] theorem appendRecord_inReset (x : Record) : (appendRecord x s).inReset = s.inReset := rfl
@[simp] theorem appendRecord_pending (x : Record) : (appendRecord x s).pending = s.pending := rfl
@[simp] theorem appendRecord_freeCount (x : Record) : (appendRecord x s).freeCount = s.freeCount := rfl

@[simp] theorem foldAt_entries (i : Nat) (r : Request) : (foldAt i r s).entries = s.entries := rfl
@[simp] theorem foldAt_profiles (i : Nat) (r : Request) : (foldAt i r s).profiles = s.profiles := rfl
@[simp] theorem foldAt_lanes (i : Nat) (r : Request) : (foldAt i r s).lanes = s.lanes := rfl
@[simp] theorem foldAt_direct (i : Nat) (r : Request) : (foldAt i r s).direct = s.direct := rfl
@[simp] theorem foldAt_sched (i : Nat) (r : Request) : (foldAt i r s).sched = s.sched := rfl
@[simp] theorem foldAt_cmd (i : Nat) (r : Request) : (foldAt i r s).cmd = s.cmd := rfl
@[simp] theorem foldAt_irq (i : Nat) (r : Request) : (foldAt i r s).irq = s.irq := rfl
@[simp] theorem foldAt_port (i : Nat) (r : Request) : (foldAt i r s).port = s.port := rfl
@[simp] theorem foldAt_inReset (i : Nat) (r : Request) : (foldAt i r s).inReset = s.inReset := rfl
@[simp] theorem foldAt_pending (i : Nat) (r : Request) : (foldAt i r s).pending = s.pending := rfl
@[simp] theorem foldAt_freeCount (i : Nat) (r : Request) : (foldAt i r s).freeCount = s.freeCount := rfl

@[simp] theorem applyReported_profiles (r : Request) : (applyReported r s).profiles = s.profiles := rfl
@[simp] theorem applyReported_lanes (r : Request) : (applyReported r s).lanes = s.lanes := rfl
@[simp] theorem applyReported_direct (r : Request) : (applyReported r s).direct = s.direct := rfl
@[simp] theorem applyReported_sched (r : Request) : (applyReported r s).sched = s.sched := rfl
@[simp] theorem applyReported_queue (r : Request) : (applyReported r s).queue = s.queue := rfl
@[simp] theorem applyReported_cmd (r : Request) : (applyReported r s).cmd = s.cmd := rfl
@[simp] theorem applyReported_irq (r : Request) : (applyReported r s).irq = s.irq := rfl
@[simp] theorem applyReported_port (r : Request) : (applyReported r s).port = s.port := rfl
@[simp] theorem applyReported_inReset (r : Request) : (applyReported r s).inReset = s.inReset := rfl
@[simp] theorem applyReported_pending (r : Request) : (applyReported r s).pending = s.pending := rfl
@[simp] theorem applyReported_freeCount (r : Request) : (applyReported r s).freeCount = s.freeCount := rfl

@[simp] theorem applyDeferred_profiles (r : Request) : (applyDeferred r s).profiles = s.profiles := rfl
@[simp] theorem applyDeferred_lanes (r : Request) : (applyDeferred r s).lanes = s.lanes := rfl
@[simp] theorem applyDeferred_direct (r : Request) : (applyDeferred r s).direct = s.direct := rfl
@[simp] theorem applyDeferred_sched (r : Request) : (applyDeferred r s).sched = s.sched := rfl
@[simp] theorem applyDeferred_queue (r : Request) : (applyDeferred r s).queue = s.queue := rfl
@[simp] theorem applyDeferred_cmd (r : Request) : (applyDeferred r s).cmd = s.cmd := rfl
@[simp] theorem applyDeferred_irq (r : Request) : (applyDeferred r s).irq = s.irq := rfl
@[simp] theorem applyDeferred_port (r : Request) : (applyDeferred r s).port = s.port := rfl
@[simp] theorem applyDeferred_inReset (r : Request) : (applyDeferred r s).inReset = s.inReset := rfl
@[simp] theorem applyDeferred_pending (r : Request) : (applyDeferred r s).pending = s.pending := rfl
@[simp] theorem applyDeferred_freeCount (r : Request) : (applyDeferred r s).freeCount = s.freeCount := rfl

@[simp] theorem startTxn_entries (l : LaneNo) (o : Owner) (i : SelectNo) (p : LineProfile) (w : Nat) : (startTxn l o i p w s).entries = s.entries := rfl
@[simp] theorem startTxn_profiles (l : LaneNo) (o : Owner) (i : SelectNo) (p : LineProfile) (w : Nat) : (startTxn l o i p w s).profiles = s.profiles := rfl
@[simp] theorem startTxn_direct (l : LaneNo) (o : Owner) (i : SelectNo) (p : LineProfile) (w : Nat) : (startTxn l o i p w s).direct = s.direct := rfl
@[simp] theorem startTxn_sched (l : LaneNo) (o : Owner) (i : SelectNo) (p : LineProfile) (w : Nat) : (startTxn l o i p w s).sched = s.sched := rfl
@[simp] theorem startTxn_queue (l : LaneNo) (o : Owner) (i : SelectNo) (p : LineProfile) (w : Nat) : (startTxn l o i p w s).queue = s.queue := rfl
@[simp] theorem startTxn_cmd (l : LaneNo) (o : Owner) (i : SelectNo) (p : LineProfile) (w : Nat) : (startTxn l o i p w s).cmd = s.cmd := rfl
@[simp] theorem startTxn_irq (l : LaneNo) (o : Owner) (i : SelectNo) (p : LineProfile) (w : Nat) : (startTxn l o i p w s).irq = s.irq := rfl
@[simp] theorem startTxn_port (l : LaneNo) (o : Owner) (i : SelectNo) (p : LineProfile) (w : Nat) : (startTxn l o i p w s).port = s.port := rfl
@[simp] theorem startTxn_inReset (l : LaneNo) (o : Owner) (i : SelectNo) (p : LineProfile) (w : Nat) : (startTxn l o i p w s).inReset = s.inReset := rfl
@[simp] theorem startTxn_pending (l : LaneNo) (o : Owner) (i : SelectNo) (p : LineProfile) (w : Nat) : (startTxn l o i p w s).pending = s.pending := rfl
@[simp] theorem startTxn_freeCount (l : LaneNo) (o : Owner) (i : SelectNo) (p : LineProfile) (w : Nat) : (startTxn l o i p w s).freeCount = s.freeCount := rfl

@[simp] theorem takeSlot_entries (l : LaneNo) (k : SlotNo) : (takeSlot l k s).entries = s.entries := rfl
@[simp] theorem takeSlot_profiles (l : LaneNo) (k : SlotNo) : (takeSlot l k s).profiles = s.profiles := rfl
@[simp] theorem takeSlot_sched (l : LaneNo) (k : SlotNo) : (takeSlot l k s).sched = s.sched := rfl
@[simp] theorem takeSlot_queue (l : LaneNo) (k : SlotNo) : (takeSlot l k s).queue = s.queue := rfl
@[simp] theorem takeSlot_cmd (l : LaneNo) (k : SlotNo) : (takeSlot l k s).cmd = s.cmd := rfl
@[simp] theorem takeSlot_irq (l : LaneNo) (k : SlotNo) : (takeSlot l k s).irq = s.irq := rfl
@[simp] theorem takeSlot_port (l : LaneNo) (k : SlotNo) : (takeSlot l k s).port = s.port := rfl
@[simp] theorem takeSlot_inReset (l : LaneNo) (k : SlotNo) : (takeSlot l k s).inReset = s.inReset := rfl
@[simp] theorem takeSlot_pending (l : LaneNo) (k : SlotNo) : (takeSlot l k s).pending = s.pending := rfl
@[simp] theorem takeSlot_freeCount (l : LaneNo) (k : SlotNo) : (takeSlot l k s).freeCount = s.freeCount := rfl

@[simp] theorem takeEntry_profiles (l : LaneNo) (n : EntryNo) (q : List EntryNo) : (takeEntry l n q s).profiles = s.profiles := rfl
@[simp] theorem takeEntry_direct (l : LaneNo) (n : EntryNo) (q : List EntryNo) : (takeEntry l n q s).direct = s.direct := rfl
@[simp] theorem takeEntry_sched (l : LaneNo) (n : EntryNo) (q : List EntryNo) : (takeEntry l n q s).sched = s.sched := rfl
@[simp] theorem takeEntry_queue (l : LaneNo) (n : EntryNo) (q : List EntryNo) : (takeEntry l n q s).queue = s.queue := rfl
@[simp] theorem takeEntry_cmd (l : LaneNo) (n : EntryNo) (q : List EntryNo) : (takeEntry l n q s).cmd = s.cmd := rfl
@[simp] theorem takeEntry_irq (l : LaneNo) (n : EntryNo) (q : List EntryNo) : (takeEntry l n q s).irq = s.irq := rfl
@[simp] theorem takeEntry_port (l : LaneNo) (n : EntryNo) (q : List EntryNo) : (takeEntry l n q s).port = s.port := rfl
@[simp] theorem takeEntry_inReset (l : LaneNo) (n : EntryNo) (q : List EntryNo) : (takeEntry l n q s).inReset = s.inReset := rfl
@[simp] theorem takeEntry_pending (l : LaneNo) (n : EntryNo) (q : List EntryNo) : (takeEntry l n q s).pending = s.pending := rfl
@[simp] theorem takeEntry_freeCount (l : LaneNo) (n : EntryNo) (q : List EntryNo) : (takeEntry l n q s).freeCount = s.freeCount := rfl

@[simp] theorem advanceOffset_entries : (advanceOffset s).entries = s.entries := rfl
@[simp] theorem advanceOffset_profiles : (advanceOffset s).profiles = s.profiles := rfl
@[simp] theorem advanceOffset_lanes : (advanceOffset s).lanes = s.lanes := rfl
@[simp] theorem advanceOffset_direct : (advanceOffset s).direct = s.direct := rfl
@[simp] theorem advanceOffset_sched : (advanceOffset s).sched = s.sched := rfl
@[simp] theorem advanceOffset_queue : (advanceOffset s).queue = s.queue := rfl
@[simp] theorem advanceOffset_cmd : (advanceOffset s).cmd = s.cmd := rfl
@[simp] theorem advanceOffset_irq : (advanceOffset s).irq = s.irq := rfl
@[simp] theorem advanceOffset_inReset : (advanceOffset s).inReset = s.inReset := rfl
@[simp] theorem advanceOffset_pending : (advanceOffset s).pending = s.pending := rfl
@[simp] theorem advanceOffset_freeCount : (advanceOffset s).freeCount = s.freeCount := rfl

@[simp] theorem advanceTime_entries : (advanceTime s).entries = s.entries := rfl
@[simp] theorem advanceTime_profiles : (advanceTime s).profiles = s.profiles := rfl
@[simp] theorem advanceTime_lanes : (advanceTime s).lanes = s.lanes := rfl
@[simp] theorem advanceTime_direct : (advanceTime s).direct = s.direct := rfl
@[simp] theorem advanceTime_queue : (advanceTime s).queue = s.queue := rfl
@[simp] theorem advanceTime_cmd : (advanceTime s).cmd = s.cmd := rfl
@[simp] theorem advanceTime_irq : (advanceTime s).irq = s.irq := rfl
@[simp] theorem advanceTime_port : (advanceTime s).port = s.port := rfl
@[simp] theorem advanceTime_inReset : (advanceTime s).inReset = s.inReset := rfl
@[simp] theorem advanceTime_pending : (advanceTime s).pending = s.pending := rfl
@[simp] theorem advanceTime_freeCount : (advanceTime s).freeCount = s.freeCount := rfl

@[simp] theorem countEntries_profiles : (countEntries s).profiles = s.profiles := rfl
@[simp] theorem countEntries_lanes : (countEntries s).lanes = s.lanes := rfl
@[simp] theorem countEntries_direct : (countEntries s).direct = s.direct := rfl
@[simp] theorem countEntries_sched : (countEntries s).sched = s.sched := rfl
@[simp] theorem countEntries_queue : (countEntries s).queue = s.queue := rfl
@[simp] theorem countEntries_cmd : (countEntries s).cmd = s.cmd := rfl
@[simp] theorem countEntries_irq : (countEntries s).irq = s.irq := rfl
@[simp] theorem countEntries_port : (countEntries s).port = s.port := rfl
@[simp] theorem countEntries_inReset : (countEntries s).inReset = s.inReset := rfl
@[simp] theorem countEntries_pending : (countEntries s).pending = s.pending := rfl
@[simp] theorem countEntries_freeCount : (countEntries s).freeCount = s.freeCount := rfl

@[simp] theorem removeHead_entries : (removeHead s).entries = s.entries := rfl
@[simp] theorem removeHead_profiles : (removeHead s).profiles = s.profiles := rfl
@[simp] theorem removeHead_lanes : (removeHead s).lanes = s.lanes := rfl
@[simp] theorem removeHead_direct : (removeHead s).direct = s.direct := rfl
@[simp] theorem removeHead_sched : (removeHead s).sched = s.sched := rfl
@[simp] theorem removeHead_cmd : (removeHead s).cmd = s.cmd := rfl
@[simp] theorem removeHead_irq : (removeHead s).irq = s.irq := rfl
@[simp] theorem removeHead_port : (removeHead s).port = s.port := rfl
@[simp] theorem removeHead_inReset : (removeHead s).inReset = s.inReset := rfl
@[simp] theorem removeHead_pending : (removeHead s).pending = s.pending := rfl
@[simp] theorem removeHead_freeCount : (removeHead s).freeCount = s.freeCount := rfl

/-! ### Reading a table after writing it -/

@[simp] theorem entry_setEntry (n m : EntryNo) (e : Entry) :
    (s.setEntry n e).entry m = if n = m then e else s.entry m := by
  simp [State.entry, State.setEntry, Vector.getElem_set, Fin.ext_iff]

@[simp] theorem profile_setProfile (p q : ProfileNo) (x : Profile) :
    (s.setProfile p x).profile q = if p = q then x else s.profile q := by
  simp [State.profile, State.setProfile, Vector.getElem_set, Fin.ext_iff]

@[simp] theorem lane_setLane (l m : LaneNo) (x : Lane) :
    (s.setLane l x).lane m = if l = m then x else s.lane m := by
  simp [State.lane, State.setLane, Vector.getElem_set, Fin.ext_iff]

@[simp] theorem slot_setSlot (k m : SlotNo) (x : Slot) :
    (s.setSlot k x).slot m = if k = m then x else s.slot m := by
  simp [State.slot, State.setSlot, Vector.getElem_set, Fin.ext_iff]

@[simp] theorem entry_modRun (n m : EntryNo) (f : EntryRun → EntryRun) :
    (s.modRun n f).entry m = if n = m then { s.entry n with run := f (s.entry n).run } else s.entry m := by
  simp [State.modRun]

@[simp] theorem lane_modLane (l m : LaneNo) (f : Lane → Lane) :
    (s.modLane l f).lane m = if l = m then f (s.lane l) else s.lane m := by
  simp [State.modLane]

theorem getElem_mapTable {α : Type} {n : Nat} (f : α → α) (v : Vector α n) (i : Nat) (h : i < n) :
    (mapTable f v)[i] = f v[i] := by
  simp [mapTable]

@[simp] theorem entry_mapRuns (f : Entry → EntryRun) (n : EntryNo) :
    (s.mapRuns f).entry n = { s.entry n with run := f (s.entry n) } := by
  simp [State.entry, State.mapRuns, getElem_mapTable]

/-! ### Reading another table -/

@[simp] theorem profile_setEntry_other (n : EntryNo) (e : Entry) (j : ProfileNo) : (s.setEntry n e).profile j = s.profile j := rfl
@[simp] theorem lane_setEntry_other (n : EntryNo) (e : Entry) (j : LaneNo) : (s.setEntry n e).lane j = s.lane j := rfl
@[simp] theorem slot_setEntry_other (n : EntryNo) (e : Entry) (j : SlotNo) : (s.setEntry n e).slot j = s.slot j := rfl

@[simp] theorem profile_modRun_other (n : EntryNo) (f : EntryRun → EntryRun) (j : ProfileNo) : (s.modRun n f).profile j = s.profile j := rfl
@[simp] theorem lane_modRun_other (n : EntryNo) (f : EntryRun → EntryRun) (j : LaneNo) : (s.modRun n f).lane j = s.lane j := rfl
@[simp] theorem slot_modRun_other (n : EntryNo) (f : EntryRun → EntryRun) (j : SlotNo) : (s.modRun n f).slot j = s.slot j := rfl

@[simp] theorem profile_mapRuns_other (f : Entry → EntryRun) (j : ProfileNo) : (s.mapRuns f).profile j = s.profile j := rfl
@[simp] theorem lane_mapRuns_other (f : Entry → EntryRun) (j : LaneNo) : (s.mapRuns f).lane j = s.lane j := rfl
@[simp] theorem slot_mapRuns_other (f : Entry → EntryRun) (j : SlotNo) : (s.mapRuns f).slot j = s.slot j := rfl

@[simp] theorem entry_setProfile_other (p : ProfileNo) (x : Profile) (j : EntryNo) : (s.setProfile p x).entry j = s.entry j := rfl
@[simp] theorem lane_setProfile_other (p : ProfileNo) (x : Profile) (j : LaneNo) : (s.setProfile p x).lane j = s.lane j := rfl
@[simp] theorem slot_setProfile_other (p : ProfileNo) (x : Profile) (j : SlotNo) : (s.setProfile p x).slot j = s.slot j := rfl

@[simp] theorem entry_setLane_other (l : LaneNo) (x : Lane) (j : EntryNo) : (s.setLane l x).entry j = s.entry j := rfl
@[simp] theorem profile_setLane_other (l : LaneNo) (x : Lane) (j : ProfileNo) : (s.setLane l x).profile j = s.profile j := rfl
@[simp] theorem slot_setLane_other (l : LaneNo) (x : Lane) (j : SlotNo) : (s.setLane l x).slot j = s.slot j := rfl

@[simp] theorem entry_modLane_other (l : LaneNo) (f : Lane → Lane) (j : EntryNo) : (s.modLane l f).entry j = s.entry j := rfl
@[simp] theorem profile_modLane_other (l : LaneNo) (f : Lane → Lane) (j : ProfileNo) : (s.modLane l f).profile j = s.profile j := rfl
@[simp] theorem slot_modLane_other (l : LaneNo) (f : Lane → Lane) (j : SlotNo) : (s.modLane l f).slot j = s.slot j := rfl

@[simp] theorem entry_setSlot_other (k : SlotNo) (x : Slot) (j : EntryNo) : (s.setSlot k x).entry j = s.entry j := rfl
@[simp] theorem profile_setSlot_other (k : SlotNo) (x : Slot) (j : ProfileNo) : (s.setSlot k x).profile j = s.profile j := rfl
@[simp] theorem lane_setSlot_other (k : SlotNo) (x : Slot) (j : LaneNo) : (s.setSlot k x).lane j = s.lane j := rfl

@[simp] theorem entry_accessError_other (c : ErrCode) (o : Byte) (j : EntryNo) : (accessError c o s).entry j = s.entry j := rfl
@[simp] theorem profile_accessError_other (c : ErrCode) (o : Byte) (j : ProfileNo) : (accessError c o s).profile j = s.profile j := rfl
@[simp] theorem lane_accessError_other (c : ErrCode) (o : Byte) (j : LaneNo) : (accessError c o s).lane j = s.lane j := rfl
@[simp] theorem slot_accessError_other (c : ErrCode) (o : Byte) (j : SlotNo) : (accessError c o s).slot j = s.slot j := rfl

@[simp] theorem entry_raiseUse_other (p : ProfileNo) (j : EntryNo) : (raiseUse p s).entry j = s.entry j := rfl
@[simp] theorem lane_raiseUse_other (p : ProfileNo) (j : LaneNo) : (raiseUse p s).lane j = s.lane j := rfl
@[simp] theorem slot_raiseUse_other (p : ProfileNo) (j : SlotNo) : (raiseUse p s).slot j = s.slot j := rfl

@[simp] theorem entry_dropUse_other (p : ProfileNo) (j : EntryNo) : (dropUse p s).entry j = s.entry j := rfl
@[simp] theorem lane_dropUse_other (p : ProfileNo) (j : LaneNo) : (dropUse p s).lane j = s.lane j := rfl
@[simp] theorem slot_dropUse_other (p : ProfileNo) (j : SlotNo) : (dropUse p s).slot j = s.slot j := rfl

@[simp] theorem entry_appendRecord_other (x : Record) (j : EntryNo) : (appendRecord x s).entry j = s.entry j := rfl
@[simp] theorem profile_appendRecord_other (x : Record) (j : ProfileNo) : (appendRecord x s).profile j = s.profile j := rfl
@[simp] theorem lane_appendRecord_other (x : Record) (j : LaneNo) : (appendRecord x s).lane j = s.lane j := rfl
@[simp] theorem slot_appendRecord_other (x : Record) (j : SlotNo) : (appendRecord x s).slot j = s.slot j := rfl

@[simp] theorem entry_foldAt_other (i : Nat) (r : Request) (j : EntryNo) : (foldAt i r s).entry j = s.entry j := rfl
@[simp] theorem profile_foldAt_other (i : Nat) (r : Request) (j : ProfileNo) : (foldAt i r s).profile j = s.profile j := rfl
@[simp] theorem lane_foldAt_other (i : Nat) (r : Request) (j : LaneNo) : (foldAt i r s).lane j = s.lane j := rfl
@[simp] theorem slot_foldAt_other (i : Nat) (r : Request) (j : SlotNo) : (foldAt i r s).slot j = s.slot j := rfl

@[simp] theorem entry_startTxn_other (l : LaneNo) (o : Owner) (i : SelectNo) (p : LineProfile) (w : Nat) (j : EntryNo) : (startTxn l o i p w s).entry j = s.entry j := rfl
@[simp] theorem profile_startTxn_other (l : LaneNo) (o : Owner) (i : SelectNo) (p : LineProfile) (w : Nat) (j : ProfileNo) : (startTxn l o i p w s).profile j = s.profile j := rfl
@[simp] theorem slot_startTxn_other (l : LaneNo) (o : Owner) (i : SelectNo) (p : LineProfile) (w : Nat) (j : SlotNo) : (startTxn l o i p w s).slot j = s.slot j := rfl

/-! ### A table is read through its own field alone -/

theorem entry_congr {s t : State} (h : t.entries = s.entries) (n : EntryNo) : t.entry n = s.entry n := by
  simp [State.entry, h]

theorem profile_congr {s t : State} (h : t.profiles = s.profiles) (p : ProfileNo) :
    t.profile p = s.profile p := by
  simp [State.profile, h]

theorem lane_congr {s t : State} (h : t.lanes = s.lanes) (l : LaneNo) : t.lane l = s.lane l := by
  simp [State.lane, h]

theorem slot_congr {s t : State} (h : t.direct = s.direct) (k : SlotNo) : t.slot k = s.slot k := by
  simp [State.slot, h]

/-- Two tables of entries that read alike are equal; so for the others. -/
theorem entries_ext {s t : State} (h : ∀ n, t.entry n = s.entry n) : t.entries = s.entries :=
  Vector.ext fun i hi => h ⟨i, hi⟩

theorem profiles_ext {s t : State} (h : ∀ p, t.profile p = s.profile p) : t.profiles = s.profiles :=
  Vector.ext fun i hi => h ⟨i, hi⟩

theorem lanes_ext {s t : State} (h : ∀ l, t.lane l = s.lane l) : t.lanes = s.lanes :=
  Vector.ext fun i hi => h ⟨i, hi⟩

/-! ### A table read through an update of other fields -/

@[simp] theorem entry_mk
    (ps : Vector Profile 16) (ls : Vector Lane 4) (du : DirectUnit) (sc : Scheduler) (cq : ChangeQueue) (cu : CommandUnit) (iu : InterruptUnit) (hp : HostPort) (b : Bool) (c : List Instr) (k : Nat)
    (n : EntryNo) :
    (State.mk s.entries ps ls du sc cq cu iu hp b c k).entry n = s.entry n :=
  rfl

@[simp] theorem profile_mk
    (es : Vector Entry 64) (ls : Vector Lane 4) (du : DirectUnit) (sc : Scheduler) (cq : ChangeQueue) (cu : CommandUnit) (iu : InterruptUnit) (hp : HostPort) (b : Bool) (c : List Instr) (k : Nat)
    (p : ProfileNo) :
    (State.mk es s.profiles ls du sc cq cu iu hp b c k).profile p = s.profile p :=
  rfl

@[simp] theorem lane_mk
    (es : Vector Entry 64) (ps : Vector Profile 16) (du : DirectUnit) (sc : Scheduler) (cq : ChangeQueue) (cu : CommandUnit) (iu : InterruptUnit) (hp : HostPort) (b : Bool) (c : List Instr) (k : Nat)
    (l : LaneNo) :
    (State.mk es ps s.lanes du sc cq cu iu hp b c k).lane l = s.lane l :=
  rfl

@[simp] theorem slot_mk
    (es : Vector Entry 64) (ps : Vector Profile 16) (ls : Vector Lane 4) (sc : Scheduler) (cq : ChangeQueue) (cu : CommandUnit) (iu : InterruptUnit) (hp : HostPort) (b : Bool) (c : List Instr) (k : Nat)
    (j : SlotNo) :
    (State.mk es ps ls s.direct sc cq cu iu hp b c k).slot j = s.slot j :=
  rfl

@[simp] theorem slot_mk_slots
    (es : Vector Entry 64) (ps : Vector Profile 16) (ls : Vector Lane 4) (sc : Scheduler) (cq : ChangeQueue) (cu : CommandUnit) (iu : InterruptUnit) (hp : HostPort) (b : Bool) (c : List Instr) (k : Nat)
    (o : Word) (w : List SlotNo) (j : SlotNo) :
    (State.mk es ps ls (DirectUnit.mk s.direct.slots o w) sc cq cu iu hp b c k).slot j = s.slot j :=
  rfl

/-! ### Writing nothing new -/

theorem setEntry_entry (n : EntryNo) : s.setEntry n (s.entry n) = s := by
  simp [State.setEntry, State.entry]

theorem setLane_lane (l : LaneNo) : s.setLane l (s.lane l) = s := by
  simp [State.setLane, State.lane]

theorem setProfile_profile (p : ProfileNo) : s.setProfile p (s.profile p) = s := by
  simp [State.setProfile, State.profile]

theorem setSlot_slot (k : SlotNo) : s.setSlot k (s.slot k) = s := by
  simp [State.setSlot, State.slot]

end Sys2Proof.Machine
end

