-- ==== Sys2Proof/Laws/Ops.lean ====
section
/-! SUPPORT. What each shared operation can do, said once: the inversion of the frames of a command, the
command register protocol, posting, the drain, the arbiter, delivery and the tick. -/

namespace Sys2Proof.Machine

variable {s t : State}

/-! ### The frames of a command -/

theorem hostAccess_next {f : State → Outcome} (h : hostAccess f s = .next t) :
    (s.inReset = true ∧ t = s) ∨ (s.inReset = false ∧ f (settleDues s) = .next t) := by
  unfold hostAccess at h
  cases hr : s.inReset <;> simp_all

theorem hostWrite_next {f : State → Outcome} (h : hostWrite f s = .next t) :
    (s.inReset = true ∧ t = s) ∨
      (s.inReset = false ∧
        f { settleDues s with port := undriven (settleDues s).port } = .next t) :=
  hostAccess_next h

theorem hostRead_next {value : State → Word} {f : State → State} (h : hostRead value f s = .next t) :
    (s.inReset = true ∧ t = s) ∨
      (s.inReset = false ∧
        t = { f (settleDues s) with
          port := { (f (settleDues s)).port with data := some (value (settleDues s)) } }) := by
  rcases hostAccess_next h with ⟨hr, e⟩ | ⟨hr, e⟩
  · exact .inl ⟨hr, e⟩
  · exact .inr ⟨hr, by simpa using e.symm⟩

theorem laneEvent_next {l : LaneNo} {p : Phase} {f : Txn → State → Outcome}
    (h : laneEvent l p f s = .next t) :
    s.inReset = false ∧
      ∃ x, ((settleDues s).lane l).txn = some x ∧ ((settleDues s).lane l).phase = p ∧
        f x (settleDues s) = .next t := by
  unfold laneEvent at h
  cases hr : s.inReset
  · rw [hr] at h
    simp only [Bool.false_eq_true, if_false] at h
    split at h
    · simp at h
    · next x hx =>
      split at h
      · next hp => exact ⟨rfl, x, hx, hp, h⟩
      · simp at h
  · simp [hr] at h

@[simp] theorem settleDues_nil (h : s.sched.dues = []) : settleDues s = s := by
  simp [settleDues, h]

theorem hostWrite_settled {f : State → Outcome} (h : s.Settled) :
    hostWrite f s = f { s with port := undriven s.port } := by
  simp [hostWrite, hostAccess, h.1, settleDues_nil h.2, undriven]

theorem hostRead_settled {value : State → Word} {f : State → State} (h : s.Settled) :
    hostRead value f s = .next { f s with port := { (f s).port with data := some (value s) } } := by
  simp [hostRead, hostAccess, h.1, settleDues_nil h.2]

theorem laneEvent_settled {l : LaneNo} {p : Phase} {f : Txn → State → Outcome} {x : Txn} (h : s.Settled)
    (ht : (s.lane l).txn = some x) (hp : (s.lane l).phase = p) : laneEvent l p f s = f x s := by
  simp [laneEvent, h.1, settleDues_nil h.2, ht, hp]

/-! ### The command register protocol -/

theorem takeCommand_next {code arg : Byte} {owner : State → CmdAnswer}
    (h : takeCommand code arg owner s = .next t) :
    (s.cmd.inFlight.isSome ∧ t = accessError .cmdBusy 0x06 s) ∨
    (s.cmd.inFlight = none ∧
      ((∃ u, owner s = .completed u ∧ t = { u with cmd := acceptedOk u.cmd code arg }) ∨
       (∃ r, owner s = .refused r ∧ t = { s with cmd := refusedWith s.cmd r }) ∨
       (∃ f u, owner s = .inFlight f u ∧ t = { u with cmd := acceptedInFlight u.cmd code arg f }))) := by
  unfold takeCommand at h
  cases hf : s.cmd.inFlight with
  | some f => simp_all
  | none =>
    simp only [hf] at h
    refine .inr ⟨rfl, ?_⟩
    cases ho : owner s <;> simp only [ho] at h <;> simp_all [acceptedOk, refusedWith, acceptedInFlight]

theorem takeCommand_ready {code arg : Byte} {owner : State → CmdAnswer} (h : s.cmd.inFlight = none) :
    takeCommand code arg owner s =
      match owner s with
      | .completed u => .next { u with cmd := acceptedOk u.cmd code arg }
      | .refused r => .next { s with cmd := refusedWith s.cmd r }
      | .inFlight f u => .next { u with cmd := acceptedInFlight u.cmd code arg f }
      | .ruledOut => .fault .ruledOut := by
  unfold takeCommand
  rw [h]
  cases owner s <;> rfl

theorem completeFlight_of_eq {f : InFlight} {r : CmdResult} (h : s.cmd.inFlight = some f) :
    completeFlight f r s = { s with cmd := flightEnded s.cmd r, irq := { s.irq with cmdDone := true } } := by
  simp [completeFlight, h, flightEnded]

theorem completeFlight_of_ne {f : InFlight} {r : CmdResult} (h : s.cmd.inFlight ≠ some f) :
    completeFlight f r s = s := by
  simp [completeFlight, h]

/-! ### Posting and the drain -/

/-- Every way a posting request is taken (R51, R54). -/
theorem post_cases (r : Request) (s : State) :
    (∃ i, (s.entry r.entry).run.pending = .none ∧ foldTarget r.entry s.queue = some i ∧ r.kind = .change ∧
      post r s = applyReported r (foldAt i r s)) ∨
    (s.queue.records.length < Config.changeQueueSize ∧
      post r s = applyReported r (appendRecord (recordOf r s.queue.nextSeq s.sched.time) s)) ∨
    (Config.changeQueueSize ≤ s.queue.records.length ∧ post r s = applyDeferred r s) := by
  have key : post r s = appendOrDefer r s →
      (s.queue.records.length < Config.changeQueueSize ∧
        post r s = applyReported r (appendRecord (recordOf r s.queue.nextSeq s.sched.time) s)) ∨
      (Config.changeQueueSize ≤ s.queue.records.length ∧ post r s = applyDeferred r s) := by
    intro e
    rw [e, appendOrDefer]
    split
    · next h => exact .inl ⟨h, rfl⟩
    · next h => exact .inr ⟨Nat.le_of_not_lt h, rfl⟩
  cases hk : r.kind with
  | fault => exact .inr (key (by simp [post, hk]))
  | recover => exact .inr (key (by simp [post, hk]))
  | change =>
    by_cases hp : (s.entry r.entry).run.pending = .none
    · cases hf : foldTarget r.entry s.queue with
      | none => exact .inr (key (by simp [post, hk, hp, hf]))
      | some i => exact .inl ⟨i, hp, rfl, rfl, by simp [post, hk, hp, hf]⟩
    · exact .inr (key (by simp [post, hk, hp]))

/-- A fold reaches an unheld CHANGE record of the entry (R51). -/
theorem foldTarget_some {n : EntryNo} {q : ChangeQueue} {i : Nat} (h : foldTarget n q = some i) :
    newestOf n q.records = some i ∧
      ∃ x, q.records[i]? = some x ∧ x.kind = .change ∧ ¬(i = 0 ∧ q.held = true) := by
  unfold foldTarget at h
  split at h
  · simp at h
  · next j hj =>
    split at h
    · simp at h
    · next x hx =>
      split at h
      · next hc =>
        have : j = i := by simpa using h
        subst this
        exact ⟨hj, x, hx, hc⟩
      · simp at h

theorem newestOf_none {n : EntryNo} {q : List Record} (h : ∀ y ∈ q, y.entry ≠ n) : newestOf n q = none := by
  induction q with
  | nil => rfl
  | cons y ys ih =>
    have hy := h y (by simp)
    simp [newestOf, ih fun z hz => h z (by simp [hz]), hy]

/-- The record of the entry with no other behind it is its newest (R51). -/
theorem newestOf_append {n : EntryNo} {ahead behind : List Record} {x : Record} (hx : x.entry = n)
    (h : ∀ y ∈ behind, y.entry ≠ n) : newestOf n (ahead ++ x :: behind) = some ahead.length := by
  induction ahead with
  | nil => simp [newestOf, newestOf_none h, hx]
  | cons y ys ih => simp [newestOf, ih]

theorem newestOf_some {n : EntryNo} {q : List Record} {i : Nat} (h : newestOf n q = some i) :
    ∃ ahead behind x, q = ahead ++ x :: behind ∧ ahead.length = i ∧ x.entry = n ∧ ∀ y ∈ behind, y.entry ≠ n := by
  induction q generalizing i with
  | nil => simp [newestOf] at h
  | cons y ys ih =>
    cases hn : newestOf n ys with
    | some j =>
      obtain ⟨ahead, behind, x, e, hl, hx, hb⟩ := ih hn
      have : j + 1 = i := by simpa [newestOf, hn] using h
      exact ⟨y :: ahead, behind, x, by simp [e], by simp [hl, this], hx, hb⟩
    | none =>
      by_cases hy : y.entry = n
      · have : 0 = i := by simpa [newestOf, hn, hy] using h
        refine ⟨[], ys, y, rfl, by simpa using this, hy, ?_⟩
        intro z hz he
        have key : ∀ q : List Record, z ∈ q → newestOf n q ≠ none := by
          intro q
          induction q with
          | nil => simp
          | cons w ws ihw =>
            intro hm
            rcases List.mem_cons.1 hm with rfl | hm
            · cases hw : newestOf n ws <;> simp [newestOf, hw, he]
            · cases hw : newestOf n ws with
              | none => exact absurd hw (ihw hm)
              | some j => simp [newestOf, hw]
        exact key ys hz hn
      · simp [newestOf, hn, hy] at h

/-- Where nothing takes a fold the queue has no target (R51). -/
theorem foldTarget_none {n : EntryNo} {q : ChangeQueue} (h : NothingToFold n q) : foldTarget n q = none := by
  cases hf : foldTarget n q with
  | none => rfl
  | some i =>
    obtain ⟨hi, x, hx, hk, hh⟩ := foldTarget_some hf
    obtain ⟨ahead, behind, y, e, hl, hy, hb⟩ := newestOf_some hi
    have hxy : x = y := by
      rw [e, ← hl] at hx
      simpa using hx.symm
    subst hxy
    rcases h ahead behind x e hy hb with h | ⟨ha, hd⟩
    · exact absurd hk h
    · subst ha
      exact absurd ⟨hl.symm, hd⟩ hh

/-- A request that finds room and nothing to fold into is appended (R51, R54). -/
theorem post_append {r : Request} (h : NothingToFold r.entry s.queue)
    (hl : s.queue.records.length < Config.changeQueueSize) :
    post r s = applyReported r (appendRecord (recordOf r s.queue.nextSeq s.sched.time) s) := by
  rcases post_cases r s with ⟨i, _, hf, _⟩ | ⟨_, e⟩ | ⟨hn, _⟩
  · simp [foldTarget_none h] at hf
  · exact e
  · exact absurd hl (Nat.not_lt.2 hn)

/-- The evaluator's test is the change condition (R35, R38). -/
theorem changeCondition_iff (c : EntryConfig) (r : EntryRun) :
    changeCondition c r = true ↔ ConditionHolds c r := by
  unfold changeCondition ConditionHolds
  cases c.mode <;> simp [numberOf]

/-- The drain posts for a pending entry exactly when its report is owed (R66, R69). -/
theorem reportOwed_iff (e : Entry) : ReportOwed e ↔ e.run.pending ≠ .none ∧ stillOwed e = true := by
  unfold ReportOwed stillOwed
  cases h : e.run.pending <;> simp [changeCondition_iff]

/-- What the drain leaves alone (R65 to R69): everything but the entries and the Change Queue. -/
theorem drainFrom_frame (ns : List EntryNo) (s : State) :
    drainFrom ns s =
      { s with entries := (drainFrom ns s).entries, queue := (drainFrom ns s).queue } := by
  induction ns generalizing s with
  | nil => rfl
  | cons n ns ih =>
    unfold drainFrom
    split
    · exact ih s
    · split
      · rfl
      · rw [ih]; rfl

/-! ### The arbiter, delivery and the tick -/

/-- Every way the arbiter of a lane can decide (R117). -/
theorem arbitrate_cases (l : LaneNo) (s : State) :
    arbitrate l s = s ∨
    ((s.lane l).mode = .running ∧ (s.lane l).phase = .idle ∧
      ((∃ k, waitingSlot l s = some k ∧ ((s.lane l).streak < 4 ∨ (s.lane l).queue = []) ∧
          arbitrate l s = takeSlot l k s) ∨
       (∃ n q, (s.lane l).queue = n :: q ∧ arbitrate l s = takeEntry l n q s))) := by
  by_cases h : (s.lane l).mode = .running ∧ (s.lane l).phase = .idle
  · cases hw : waitingSlot l s with
    | none =>
      cases hq : (s.lane l).queue with
      | nil => left; simp [arbitrate, h, hw, hq]
      | cons n q => right; exact ⟨h.1, h.2, .inr ⟨n, q, rfl, by simp [arbitrate, h, hw, hq]⟩⟩
    | some k =>
      cases hq : (s.lane l).queue with
      | nil => right; exact ⟨h.1, h.2, .inl ⟨k, rfl, .inr rfl, by simp [arbitrate, h, hw, hq]⟩⟩
      | cons n q =>
        right
        by_cases hs : (s.lane l).streak < 4
        · exact ⟨h.1, h.2, .inl ⟨k, rfl, .inl hs, by simp [arbitrate, h, hw, hq, hs]⟩⟩
        · exact ⟨h.1, h.2, .inr ⟨n, q, rfl, by simp [arbitrate, h, hw, hq, hs]⟩⟩
  · left; simp [arbitrate, h]

/-- Every way a due is handled (R86 to R90). -/
theorem handleDue_cases (n : EntryNo) (s : State) :
    (counted (s.entry n).run = false ∧ handleDue n s = s) ∨
    ((s.entry n).run.state = .wait ∧
      (s.lane (s.entry n).cfg.lane).queue.length < Config.laneQueueSize ∧
      handleDue n s =
        (s.modRun n fun r => { r with countdown := reload (s.entry n), state := .queued }).modLane
          (s.entry n).cfg.lane fun L => { L with queue := L.queue ++ [n] }) ∨
    (counted (s.entry n).run = true ∧
      handleDue n s = s.modRun n fun r => skipDue { r with countdown := reload (s.entry n) }) := by
  cases hs : (s.entry n).run.state with
  | off => exact .inl ⟨by simp [counted, hs], by simp [handleDue, hs]⟩
  | stopping => exact .inl ⟨by simp [counted, hs], by simp [handleDue, hs]⟩
  | queued => exact .inr (.inr ⟨by simp [counted, hs], by simp [handleDue, hs]⟩)
  | active => exact .inr (.inr ⟨by simp [counted, hs], by simp [handleDue, hs]⟩)
  | wait =>
    by_cases hq : (s.lane (s.entry n).cfg.lane).queue.length < Config.laneQueueSize
    · exact .inr (.inl ⟨rfl, hq, by simp [handleDue, hs, hq]⟩)
    · exact .inr (.inr ⟨by simp [counted, hs], by simp [handleDue, hs, hq]⟩)

end Sys2Proof.Machine
end

