-- ==== Sys2Proof/Laws/Frames.lean ====
section
/-! SUPPORT. What each shared operation leaves alone, said once: the operation's result is the state it was given
with only the named fields replaced. -/

namespace Sys2Proof.Machine

variable {s : State}

/-! ### Reporting and evaluation touch the entries and the Change Queue -/

theorem post_frame (r : Request) (s : State) :
    post r s = { s with entries := (post r s).entries, queue := (post r s).queue } := by
  rcases post_cases r s with ⟨i, _, _, _, h⟩ | ⟨_, h⟩ | ⟨_, h⟩ <;> rw [h] <;> rfl

theorem drain_frame (s : State) :
    drain s = { s with entries := (drain s).entries, queue := (drain s).queue } :=
  drainFrom_frame _ s

theorem prime_frame (n : EntryNo) (x : Long) (s : State) :
    prime n x s = { s with entries := (prime n x s).entries, queue := (prime n x s).queue } := by
  unfold prime
  dsimp only
  split
  · rw [post_frame]; rfl
  · rfl

theorem judge_frame (n : EntryNo) (x : Long) (s : State) :
    judge n x s = { s with entries := (judge n x s).entries, queue := (judge n x s).queue } := by
  unfold judge
  dsimp only
  split
  · rw [post_frame]; rfl
  · rfl

theorem recover_frame (n : EntryNo) (x : Long) (s : State) :
    recover n x s = { s with entries := (recover n x s).entries, queue := (recover n x s).queue } := by
  unfold recover
  dsimp only
  rw [post_frame]
  rfl

theorem goodResponse_frame (n : EntryNo) (x : Long) (s : State) :
    goodResponse n x s =
      { s with entries := (goodResponse n x s).entries, queue := (goodResponse n x s).queue } := by
  unfold goodResponse
  split
  · exact recover_frame n x s
  all_goals
    dsimp only
    split
    · rw [judge_frame]; rfl
    · rw [prime_frame]; rfl

theorem failure_frame (n : EntryNo) (c : FailCause) (s : State) :
    failure n c s = { s with entries := (failure n c s).entries, queue := (failure n c s).queue } := by
  unfold failure
  dsimp only
  split
  · rfl
  all_goals
    split
    · rfl
    · rw [post_frame]; rfl

theorem evaluate_frame (n : EntryNo) (c : List (List Bool)) (s : State) :
    evaluate n c s = { s with entries := (evaluate n c s).entries, queue := (evaluate n c s).queue } := by
  unfold evaluate
  dsimp only
  split
  · exact goodResponse_frame _ _ s
  · exact failure_frame _ _ s

/-! ### Delivery -/

theorem deliverEntry_frame (n : EntryNo) (o : TxnOutcome) (c : List (List Bool)) (s : State) :
    deliverEntry n o c s =
      { s with
        entries := (deliverEntry n o c s).entries, profiles := (deliverEntry n o c s).profiles
        queue := (deliverEntry n o c s).queue, cmd := (deliverEntry n o c s).cmd
        irq := (deliverEntry n o c s).irq } := by
  unfold deliverEntry
  split
  · unfold completeFlight
    split <;> rfl
  · dsimp only
    split
    · rw [evaluate_frame]; rfl
    · rw [failure_frame]; rfl
    · rfl
    · rfl
  all_goals rfl

theorem deliverSlot_frame (k : SlotNo) (o : TxnOutcome) (c : List (List Bool)) (s : State) :
    deliverSlot k o c s =
      { s with
        direct := (deliverSlot k o c s).direct, profiles := (deliverSlot k o c s).profiles
        irq := (deliverSlot k o c s).irq } := by
  unfold deliverSlot
  dsimp only
  split
  · unfold notifyDirect
    split <;> rfl
  · rfl

theorem deliver_frame (t : Txn) (o : TxnOutcome) (s : State) :
    deliver t o s =
      { s with
        entries := (deliver t o s).entries, profiles := (deliver t o s).profiles
        direct := (deliver t o s).direct, queue := (deliver t o s).queue, cmd := (deliver t o s).cmd
        irq := (deliver t o s).irq } := by
  unfold deliver
  split
  · rw [deliverEntry_frame]
  · rw [deliverSlot_frame]
    unfold completeFlight
    split <;> rfl

theorem deliverAborted_frame (L : Lane) (s : State) :
    deliverAborted L s =
      { s with
        entries := (deliverAborted L s).entries, profiles := (deliverAborted L s).profiles
        direct := (deliverAborted L s).direct, queue := (deliverAborted L s).queue
        cmd := (deliverAborted L s).cmd, irq := (deliverAborted L s).irq } := by
  unfold deliverAborted
  split
  · split
    · split
      · rw [deliverEntry_frame]
      · rw [deliverSlot_frame]
    · rfl
  · rfl

/-- LANE_RESET reaches nothing of the scheduler, the host port or the model's own fields (R129). -/
theorem resetLane_frame (l : LaneNo) (s : State) :
    resetLane l s =
      { s with
        entries := (resetLane l s).entries, profiles := (resetLane l s).profiles
        lanes := (s.modLane l clearLane).lanes, direct := (resetLane l s).direct
        queue := (resetLane l s).queue, cmd := (resetLane l s).cmd, irq := (resetLane l s).irq } := by
  unfold resetLane
  dsimp only
  rw [deliverAborted_frame]
  rfl

/-! ### The arbiters and the tick -/

theorem arbitrate_frame (l : LaneNo) (s : State) :
    arbitrate l s =
      { s with
        entries := (arbitrate l s).entries, lanes := (arbitrate l s).lanes
        direct := (arbitrate l s).direct } := by
  rcases arbitrate_cases l s with h | ⟨_, _, ⟨k, _, _, h⟩ | ⟨n, q, _, h⟩⟩ <;> rw [h] <;> rfl

/-- The arbiter of a lane touches no other lane. -/
theorem arbitrate_lane_of_ne {l m : LaneNo} (h : m ≠ l) (s : State) : (arbitrate l s).lane m = s.lane m := by
  rcases arbitrate_cases l s with e | ⟨_, _, ⟨k, _, _, e⟩ | ⟨n, q, _, e⟩⟩ <;> rw [e] <;>
    simp [takeSlot, takeEntry, startTxn, State.modLane, Ne.symm h]

theorem wakeArbiters_frame (s : State) :
    wakeArbiters s =
      { s with
        entries := (wakeArbiters s).entries, lanes := (wakeArbiters s).lanes
        direct := (wakeArbiters s).direct } := by
  have key : ∀ (ls : List LaneNo) (s : State),
      ls.foldl (fun s l => arbitrate l s) s =
        { s with
          entries := (ls.foldl (fun s l => arbitrate l s) s).entries
          lanes := (ls.foldl (fun s l => arbitrate l s) s).lanes
          direct := (ls.foldl (fun s l => arbitrate l s) s).direct } := by
    intro ls
    induction ls with
    | nil => intro s; rfl
    | cons l ls ih =>
      intro s
      rw [List.foldl_cons, ih, arbitrate_frame]
  exact key _ s

theorem handleDue_frame (n : EntryNo) (s : State) :
    handleDue n s = { s with entries := (handleDue n s).entries, lanes := (handleDue n s).lanes } := by
  rcases handleDue_cases n s with ⟨_, h⟩ | ⟨_, _, h⟩ | ⟨_, h⟩ <;> rw [h] <;> rfl

theorem handleDues_frame (ds : List EntryNo) (s : State) :
    ds.foldl (fun s n => handleDue n s) s =
      { s with
        entries := (ds.foldl (fun s n => handleDue n s) s).entries
        lanes := (ds.foldl (fun s n => handleDue n s) s).lanes } := by
  induction ds generalizing s with
  | nil => rfl
  | cons d ds ih => rw [List.foldl_cons, ih, handleDue_frame]

/-- The rest of a tick reaches the entries, the lanes, the direct unit and the list of dues (R84, R86). -/
theorem settleDues_frame (s : State) :
    settleDues s =
      { s with
        entries := (settleDues s).entries, lanes := (settleDues s).lanes, direct := (settleDues s).direct
        sched := { s.sched with dues := [] } } := by
  unfold settleDues
  split
  · next h =>
    cases s with
    | mk entries profiles lanes direct sched queue cmd irq port inReset pending freeCount =>
      cases sched
      simp_all
  · rw [wakeArbiters_frame, handleDues_frame]

@[simp] theorem settleDues_dues (s : State) : (settleDues s).sched.dues = [] := by
  rw [settleDues_frame]

@[simp] theorem settleDues_queue (s : State) : (settleDues s).queue = s.queue := by
  rw [settleDues_frame]

@[simp] theorem settleDues_profiles (s : State) : (settleDues s).profiles = s.profiles := by
  rw [settleDues_frame]

@[simp] theorem settleDues_cmd (s : State) : (settleDues s).cmd = s.cmd := by rw [settleDues_frame]

@[simp] theorem settleDues_irq (s : State) : (settleDues s).irq = s.irq := by rw [settleDues_frame]

@[simp] theorem settleDues_port (s : State) : (settleDues s).port = s.port := by rw [settleDues_frame]

@[simp] theorem settleDues_inReset (s : State) : (settleDues s).inReset = s.inReset := by
  rw [settleDues_frame]

@[simp] theorem settleDues_pending (s : State) : (settleDues s).pending = s.pending := by
  rw [settleDues_frame]

@[simp] theorem settleDues_freeCount (s : State) : (settleDues s).freeCount = s.freeCount := by
  rw [settleDues_frame]

@[simp] theorem settleDues_settleDues (s : State) : settleDues (settleDues s) = settleDues s :=
  settleDues_nil (settleDues_dues s)

end Sys2Proof.Machine
end

