-- ==== Sys2Proof/Laws/PerInstr.lean ====
section
/-! SUPPORT. The family BusCycle of per-command lemmas: the host cycle that a well-formed command is decodes to
that command, with every operand at every value. -/

namespace Sys2Proof.Laws.BusCycle

/-- Decoding the command's own host cycle gives the command back. The events of the part itself have no cycle. -/
def Statement (i : Instr) : Prop :=
  i.wellFormed = true → ∀ b, encodeCycle i = some b → decodeCycle b = some i

/-- A command word reaches the row of its code. -/
theorem ofCommand {i : Instr} {code arg : Byte} (h : encodeCycle i = some (.write 0x03 (commandWord code arg)))
    (hc : commandOf (commandWord code arg) = i) : Statement i := by
  intro _ b hb
  rw [h] at hb
  cases hb
  exact congrArg some hc

theorem powerOnReset : Statement .powerOnReset := by
  intro _ b h; cases h

theorem resetRelease : Statement .resetRelease := by
  intro _ b h; cases h

theorem tick : Statement .tick := by
  intro _ b h; cases h

theorem due (entry : EntryNo) : Statement (.due entry) := by
  intro _ b h; cases h

theorem startScan (arg : Byte) : Statement (.startScan arg) := 
  ofCommand rfl (by rw [commandOf_commandWord]; rfl)

theorem stopScan (arg : Byte) : Statement (.stopScan arg) := 
  ofCommand rfl (by rw [commandOf_commandWord]; rfl)

theorem entryEnable (arg : Byte) : Statement (.entryEnable arg) := 
  ofCommand rfl (by rw [commandOf_commandWord]; rfl)

theorem entryStop (arg : Byte) : Statement (.entryStop arg) := 
  ofCommand rfl (by rw [commandOf_commandWord]; rfl)

theorem entryRearm (arg : Byte) : Statement (.entryRearm arg) := 
  ofCommand rfl (by rw [commandOf_commandWord]; rfl)

theorem laneHold (arg : Byte) : Statement (.laneHold arg) := 
  ofCommand rfl (by rw [commandOf_commandWord]; rfl)

theorem laneRelease (arg : Byte) : Statement (.laneRelease arg) := 
  ofCommand rfl (by rw [commandOf_commandWord]; rfl)

theorem laneReset (arg : Byte) : Statement (.laneReset arg) := 
  ofCommand rfl (by rw [commandOf_commandWord]; rfl)

theorem directSubmit (arg : Byte) : Statement (.directSubmit arg) := 
  ofCommand rfl (by rw [commandOf_commandWord]; rfl)

theorem directCancel (arg : Byte) : Statement (.directCancel arg) := 
  ofCommand rfl (by rw [commandOf_commandWord]; rfl)

theorem directRelease (arg : Byte) : Statement (.directRelease arg) := 
  ofCommand rfl (by rw [commandOf_commandWord]; rfl)

theorem queueFlush (arg : Byte) : Statement (.queueFlush arg) := 
  ofCommand rfl (by rw [commandOf_commandWord]; rfl)

theorem softReset (arg : Byte) : Statement (.softReset arg) := 
  ofCommand rfl (by rw [commandOf_commandWord]; rfl)

theorem unknownCommand (word : Word) : Statement (.unknownCommand word) := by
  intro hw b h
  cases h
  exact congrArg some (commandOf_undefined (by simpa [Instr.wellFormed] using hw))

theorem setupEnd (lane : LaneNo) (rdy : Bool) : Statement (.setupEnd lane rdy) := by
  intro _ b h; cases h

theorem readyObserved (lane : LaneNo) (k : Nat) : Statement (.readyObserved lane k) := by
  intro _ b h; cases h

theorem readyTimeout (lane : LaneNo) : Statement (.readyTimeout lane) := by
  intro _ b h; cases h

theorem wordEnd (lane : LaneNo) (arrived : List Bool) (rdy : Bool) : Statement (.wordEnd lane arrived rdy) := by
  intro _ b h; cases h

theorem gapEnd (lane : LaneNo) (rdy : Bool) : Statement (.gapEnd lane rdy) := by
  intro _ b h; cases h

theorem holdEnd (lane : LaneNo) : Statement (.holdEnd lane) := by
  intro _ b h; cases h

theorem deselectEnd (lane : LaneNo) : Statement (.deselectEnd lane) := by
  intro _ b h; cases h

theorem headInfoRead : Statement .headInfoRead := by
  intro _ b h; cases h; rfl

theorem pop (value : Word) : Statement (.pop value) := by
  intro _ b h; cases h; rfl

theorem timeHiRead : Statement .timeHiRead := by
  intro _ b h; cases h; rfl

theorem tickDivWrite (value : Word) : Statement (.tickDivWrite value) := by
  intro _ b h; cases h; rfl

theorem queueLevelWrite (value : Word) : Statement (.queueLevelWrite value) := by
  intro _ b h; cases h; rfl

theorem ageLimitWrite (value : Word) : Statement (.ageLimitWrite value) := by
  intro _ b h; cases h; rfl

theorem irqCauseWrite (value : Word) : Statement (.irqCauseWrite value) := by
  intro _ b h; cases h; rfl

theorem irqEnableWrite (value : Word) : Statement (.irqEnableWrite value) := by
  intro _ b h; cases h; rfl

theorem tableSelectWrite (value : Word) : Statement (.tableSelectWrite value) := by
  intro _ b h; cases h; rfl

theorem tableOffsetWrite (value : Word) : Statement (.tableOffsetWrite value) := by
  intro _ b h; cases h; rfl

theorem tableDataRead : Statement .tableDataRead := by
  intro _ b h; cases h; rfl

theorem tableDataWrite (value : Word) : Statement (.tableDataWrite value) := by
  intro _ b h; cases h; rfl

theorem registerWrite (addr : Addr) (value : Word) : Statement (.registerWrite addr value) := by
  intro hw b h
  cases h
  exact congrArg some ((decodeWrite_registerWrite addr value).2 (by simpa [Instr.wellFormed] using hw))

end Sys2Proof.Laws.BusCycle
end

