-- ==== Sys2Proof/Tests/Slice0.lean ====
section
/-! SUPPORT. Tests: ill-formed terms, the worked examples of the spec, small steps, and for every obligation with
hypotheses a state and operands that meet them. -/

namespace Sys2Proof.Tests

open Sys2Proof Sys2Proof.Machine

-- One proof at a time: a thread for each of these kernel checks would not fit in memory.
set_option Elab.async false

/-! ### Ill-formed terms are refused -/

theorem test_illFormed_unknownCommand : (Instr.unknownCommand 0x7F00).wellFormed = false := by decide
theorem test_wellFormed_unknownCommand : (Instr.unknownCommand 0x0300).wellFormed = true := by decide
theorem test_illFormed_readyObserved :
    (Instr.readyObserved 0 0).wellFormed = false ∧
      (Instr.readyObserved 0 4081).wellFormed = false := by decide
theorem test_illFormed_wordEnd :
    (Instr.wordEnd 0 [] true).wellFormed = false ∧
      (Instr.wordEnd 0 (List.replicate 33 true) true).wellFormed = false := by decide
theorem test_illFormed_registerWrite : (Instr.registerWrite 0x03 0x0100).wellFormed = false := by decide
theorem test_wellFormed_registerWrite : (Instr.registerWrite 0x1F 0).wellFormed = true := by decide

/-! ### Host cycles (R167 to R169) -/

theorem test_cycle_entryStop : decodeCycle (.write 0x03 0x1115) = some (.entryStop 0x15) := by decide
theorem test_cycle_softReset : decodeCycle (.write 0x03 0x7F00) = some (.softReset 0) := by decide
theorem test_cycle_undefined : decodeCycle (.write 0x03 0x0301) = some (.unknownCommand 0x0301) := by decide
theorem test_cycle_tableData : decodeCycle (.read 0x1A) = some .tableDataRead := by decide
theorem test_cycle_pop : decodeCycle (.write 0x17 7) = some (.pop 7) := by decide
theorem test_cycle_headOldHi : decodeCycle (.write 0x0F 1) = some (.registerWrite 0x0F 1) := by decide
theorem test_cycle_plainRead : decodeCycle (.read 0x02) = none := by decide
theorem test_strobes :
    busCycle true true false 3 0 = some (.read 3) ∧ busCycle true false true 3 9 = some (.write 3 9) ∧
      busCycle true true true 3 0 = none ∧ busCycle true false false 3 0 = none := by decide
theorem test_chipSelect_high (rd wr : Bool) (a : Addr) (v : Word) : busCycle false rd wr a v = none := rfl
theorem test_commandWord_decodes :
    decodeTableWord 16 0x1115 = some (.entryStop 0x15) ∧ decodeTableWord 16 0x0301 = some (.unknownCommand 0x0301) ∧
      decodeTableWord 8 0x01 = none := by decide
theorem test_commandWord_runs_first :
    (match step (State.reset.withFetchWord 16 0x0100) with
      | .next t => t.sched.running && t.cmd.command == 0x0100
      | _ => false) = true := by decide +kernel
/-- A read of STATUS has no row; it drives D15 to D0 while CS# and RD# stay low, in place of the value before. -/
theorem test_plainRead :
    (match pinCycle true true false 0x02 0 { State.reset with port := { State.reset.port with data := some 7 } } with
      | .next t => t.dataPins true true false == some 0 && t.dataPins true false false == none
      | _ => false) = true := by decide +kernel

/-- The next state a command answers. -/
def after (c : Instr) (s : State) : Option State :=
  match exec c s with
  | .next t => some t
  | _ => none

/-! ### Time (5.4 and 6.10) -/

/-- The profile of the example FINE 5. -/
def fineFive : LineProfile := { Profile.powerOn.line with div := 2, fine := 5 }

theorem test_fine5_positions :
    (List.range' 1 16).filter (stretchedAt 5) = [4, 7, 10, 13, 16] := by decide
theorem test_fine13_positions :
    (List.range' 1 16).filter (fun p => !stretchedAt 13 p) = [1, 6, 11] := by decide
theorem test_fine5_words :
    streamLength fineFive 1 8 = 50 ∧ streamLength fineFive 9 8 = 51 ∧
      streamLength fineFive 1 16 = 101 := by decide

/-- Profile 4 of the example of section 6.10. -/
def line610 : LineProfile where
  wordLen := 16
  bitOrder := .msbFirst
  clockMode := 3
  div := 2
  fine := 4
  setup := 3
  hold := 2
  wordGap := 1
  rdyLimit := 2
  rdyPolarity := .low
  readyPerWord := false

/-- The transaction of section 6.10 with the number of the first bit period of a phase. -/
def txn610 (w bit : Nat) : Txn where
  owner := .entry 21
  select := 2
  line := line610
  wordNo := w
  words := 3
  captured := []
  bitNo := bit
  cancelMark := false
  ending := none

def lane610 (p : Phase) (w bit : Nat) : Lane :=
  { Lane.powerOn with minDeselect := 4, mode := .running, phase := p, sckRest := true, txn := some (txn610 w bit) }

theorem test_610_lengths :
    (lane610 .setup 0 1).phaseLength = 9 ∧ streamLength line610 1 3 = 18 ∧
      (lane610 .shift 0 4).phaseLength = 100 ∧ (lane610 .gap 1 20).phaseLength = 7 ∧
      (lane610 .shift 1 21).phaseLength = 100 ∧ (lane610 .gap 2 37).phaseLength = 6 ∧
      (lane610 .shift 2 38).phaseLength = 100 ∧ (lane610 .hold 3 54).phaseLength = 6 ∧
      (lane610 .deselect 3 54).phaseLength = 25 ∧ (lane610 .readyWait 0 1).phaseLength = 200 := by decide

/-- State.reset with one lane replaced. -/
def withLane (l : LaneNo) (L : Lane) (s : State) : State := s.setLane l L

theorem test_610_wait_begins :
    after (.setupEnd 1 true) (withLane 1 (lane610 .setup 0 1) State.reset) =
      some (withLane 1 (lane610 .readyWait 0 1) State.reset) := by decide +kernel
theorem test_610_ready_at_third_look :
    after (.readyObserved 1 3) (withLane 1 (lane610 .readyWait 0 1) State.reset) =
      some (withLane 1 (lane610 .shift 0 4) State.reset) := by decide +kernel
theorem test_610_gap_ends :
    after (.gapEnd 1 true) (withLane 1 (lane610 .gap 1 20) State.reset) =
      some (withLane 1 (lane610 .shift 1 21) State.reset) := by decide +kernel
/-- SS12 alone is low, SCK1 high and SDO1 low in SETUP. -/
theorem test_610_pins :
    let s := withLane 1 (lane610 .setup 0 1) State.reset
    (List.finRange 4).map (s.selectLevel 1) = [true, true, false, true] ∧ s.sck 1 = true ∧
      s.sdo 1 = false := by
  decide +kernel

/-! ### Samples and zones (R31, R37, 2.13, 2.14) -/

/-- Entry 12 of section 2.13. -/
def cfg213 : EntryConfig :=
  { EntryConfig.powerOn with
    cmdCount := 1, respCount := 1, checkMask := 0xC003, checkValue := 0x4000, fieldOffset := 2, fieldWidth := 12
    mask := 0x0FFF, mode := .zone, threshA := 400, threshB := 800, hyst := 16, initialReport := true, period := 10 }

/-- Entry 30 of section 2.14. -/
def cfg214 : EntryConfig :=
  { EntryConfig.powerOn with
    respCount := 2, fieldOffset := 3, fieldWidth := 13, mask := 0x1FFF, signed := true, mode := .delta
    threshA := 8, period := 10 }

def profile213 : Profile := { Profile.powerOn with line := { Profile.powerOn.line with wordLen := 16 } }

theorem test_r31_table :
    sampleOf { cfg213 with fieldOffset := 0 } 0x0FFF = 0x00000FFF ∧
      sampleOf { cfg213 with fieldOffset := 0, signed := true } 0x0FFF = 0xFFFFFFFF ∧
      sampleOf { cfg213 with fieldOffset := 0, signed := true } 0x0800 = 0xFFFFF800 ∧
      sampleOf { cfg213 with fieldOffset := 0, signed := true } 0x07FF = 0x000007FF := by decide
theorem test_r37_from_low :
    [399, 400, 415, 416, 784, 785, 800, 801].map (stepZone cfg213 .low) =
      [.low, .low, .low, .mid, .mid, .mid, .mid, .high] := by decide
theorem test_r37_from_mid :
    [399, 400, 415, 416, 784, 785, 800, 801].map (stepZone cfg213 .mid) =
      [.low, .mid, .mid, .mid, .mid, .mid, .mid, .high] := by decide
theorem test_r37_from_high :
    [399, 400, 415, 416, 784, 785, 800, 801].map (stepZone cfg213 .high) =
      [.low, .mid, .mid, .mid, .mid, .high, .high, .high] := by decide
theorem test_213_valid : cfg213.valid profile213 = true := by decide
theorem test_214_valid : cfg214.valid Profile.powerOn = true := by decide
theorem test_213_check : checkPasses cfg213 [0x4578] = true ∧ checkPasses cfg213 [0] = false := by decide
theorem test_213_sample : sampleOf cfg213 (responseString 16 [0x4578]) = 350 := by decide
theorem test_214_bit_order :
    wordValue .lsbFirst [false, false, true, true, false, false, false, false] = 0x0C := by decide
theorem test_214_sample : sampleOf cfg214 (responseString 8 [0xFF, 0xE8]) = 0xFFFFFFFD := by decide

/-- An entry with a configuration and a runtime part. -/
def withEntry (n : EntryNo) (c : EntryConfig) (r : EntryRun) (s : State) : State := s.setEntry n ⟨c, r⟩

/-- Row 1 of section 2.13 primes the entry with an INITIAL record of SEQ 100. -/
theorem test_213_row1 :
    let s := withEntry 12 cfg213 { EntryRun.powerOn with state := .wait }
      { State.reset with queue := { State.reset.queue with nextSeq := 100 } }
    let t := goodResponse 12 350 s
    (t.entry 12).run.czone = .low ∧ (t.entry 12).run.base = 350 ∧
      t.queue.records.map (fun r => (r.seq, r.initial, r.old, r.new)) = [(100, true, 350, 350)] := by
  decide +kernel

/-- Row 6 folds into record 102. -/
theorem test_213_row6 :
    let r : Record :=
      { kind := .change, entry := 12, seq := 102, initial := false, skipped := false, deferred := false
        overwritten := false, count := 1, old := 420, new := 399, oldZone := .mid, newZone := .low
        cause := .none, first := 0, latest := 0 }
    let s := withEntry 12 cfg213
      { EntryRun.powerOn with
        state := .wait, primed := true, last := 410, base := 399, czone := .low, bzone := .low }
      { State.reset with queue := { State.reset.queue with records := [r], nextSeq := 103 } }
    (goodResponse 12 812 s).queue.records = [{ r with new := 812, newZone := .high, count := 2 }] := by
  decide +kernel

/-! ### After reset (10.2) -/

theorem test_reset_deviceId : readRegister State.reset 0x00 = some 0x2460 := by decide +kernel
theorem test_reset_laneState : readRegister State.reset 0x1D = some 0x2222 := by decide +kernel
theorem test_reset_tableImage_profileWord0 :
    profileWord Profile.powerOn 0 = 0x0008 ∧ profileWord Profile.powerOn 2 = 0x0202 := by decide

/-! ### States the witnesses stand on -/

theorem test_reset_ready : State.reset.Ready := ⟨⟨rfl, rfl⟩, rfl⟩

def scanning (s : State) : State := { s with sched := { s.sched with running := true } }

/-- A small valid configuration on lane 0. -/
def cfgA : EntryConfig :=
  { EntryConfig.powerOn with
    cmdCount := 1, respCount := 1, fieldWidth := 8, mask := 0xFF, period := 10, checkMask := 0x80, checkValue := 0x80 }

def runIn (st : EntryState) : EntryRun :=
  { EntryRun.powerOn with state := st, primed := true, countdown := 1 }

/-- Entry 63 in a state, on lane 0, with its profile in use. -/
def entryIn (st : EntryState) (s : State) : State := raiseUse 0 (withEntry 63 cfgA (runIn st) s)

/-- A transaction on the power-on profile. -/
def txnOf (o : Owner) (w : Nat) (captured : List (List Bool)) (e : Option Ending) : Txn where
  owner := o
  select := 0
  line := Profile.powerOn.line
  wordNo := w
  words := 2
  captured := captured
  bitNo := 1
  cancelMark := false
  ending := e

def bits8 : List Bool := [true, false, false, false, false, false, false, true]

/-- Lane 0 in a phase and mode with a transaction. -/
def laneIn (p : Phase) (m : LaneMode) (t : Txn) (s : State) : State :=
  withLane 0 { Lane.powerOn with mode := m, phase := p, txn := some t } s

/-- Entry 63 in a state, its transaction on lane 0 in a phase with an ending. -/
def entryTxn (st : EntryState) (p : Phase) (c : List (List Bool)) (e : Option Ending) : State :=
  laneIn p .running (txnOf (.entry 63) 0 c e) (entryIn st State.reset)

/-- Slot 3 with WORDS 2 in a state, on lane 0. -/
def slotIn (st : SlotState) (s : State) : State :=
  s.setSlot 3 { Slot.powerOn with state := st, req := { Slot.powerOn.req with words := 2, notify := true } }

/-- Slot 3 RUNNING, its transaction on lane 0 in a phase with an ending. -/
def slotTxn (p : Phase) (c : List (List Bool)) (e : Option Ending) : State :=
  laneIn p .running (txnOf (.slot 3) 0 c e) (slotIn .running State.reset)

def record (n : EntryNo) (seq : Word) : Record where
  kind := .change
  entry := n
  seq := seq
  initial := false
  skipped := false
  deferred := false
  overwritten := false
  count := 1
  old := 0
  new := 1
  oldZone := .none
  newZone := .none
  cause := .none
  first := 0
  latest := 0

def withRecords (held : Bool) (q : List Record) (s : State) : State :=
  { s with queue := { s.queue with records := q, held := held, nextSeq := BitVec.ofNat 16 q.length } }

/-- A Change Queue of 32 records of entry 0. -/
def fullQueue (s : State) : State :=
  withRecords true ((List.range 32).map fun i => record 0 (BitVec.ofNat 16 i)) s

def inFlight (f : InFlight) (s : State) : State := { s with cmd := { s.cmd with inFlight := some f } }

/-! ### Witnesses: states and operands that meet the hypotheses of each statement, and the next state there -/

def stopInFlight : State := inFlight (.entryStop 63) (entryTxn .stopping .hold [] (some .timeout))
def holdInFlight : State :=
  inFlight (.laneHold 0) (laneIn .deselect .holdPending (txnOf (.slot 3) 2 [] (some .complete)) State.reset)
def freeOnRunning : State := slotIn .free (withLane 0 { Lane.powerOn with mode := .running } State.reset)
def headWaits : State := withLane 0 { Lane.powerOn with queue := [63] } (entryIn .queued State.reset)
def offEntry : State := withEntry 63 cfgA EntryRun.powerOn State.reset
def timedOut : State := entryTxn .active .hold [] (some .timeout)
def responded : State := entryTxn .active .hold [bits8] (some .complete)
def shifting : State := entryTxn .active .shift [] none
def slotShifting : State := slotTxn .shift [bits8] none
def oneRecord : State := withRecords false [record 1 0] State.reset
def oneHeld : State := withRecords true [record 1 0] State.reset
def waiting610 : State := withLane 1 (lane610 .readyWait 0 1) State.reset
def lane3Running : State := withLane 3 { Lane.powerOn with mode := .running } State.reset
def stoppingEntry : State := inFlight (.entryStop 63) (entryIn .stopping State.reset)
def waitEntry : State := entryIn .wait State.reset
def waitLast : State := entryTxn .wait .deselect [] (some .complete)

def queued (cs : List Instr) (s : State) : State := { s with pending := cs }

theorem test_meets_StepRunsTheFrontCommand :
    (queued [.tick, .pop 0] State.reset).pending = .tick :: [.pop 0] := by decide +kernel

theorem test_meets_EmptyQueueLetsOneClockPeriodPass :
    State.reset.Settled ∧ State.reset.pending = [] := by
  refine ⟨⟨by rfl, by rfl⟩, ?_⟩
  decide +kernel

theorem test_meets_CommandsLeaveTheQueueAlone :
    (after .tick (queued [.pop 0] State.reset)).isSome = true := by
  decide +kernel

def withDues (ds : List EntryNo) (s : State) : State := { s with sched := { s.sched with dues := ds } }

theorem test_meets_EveryCommandFollowsTheTickInProgress :
    (∀ n, Instr.tick ≠ .due n) ∧ (withDues [62, 63] waitEntry).inReset = false ∧
      (withDues [62, 63] waitEntry).sched.dues = 62 :: [63] ∧
      (after (.due 62) (withDues [62, 63] waitEntry)).isSome = true ∧
      (after .tick (withDues [62, 63] waitEntry)).map (fun t => (t.entry 63).run.state) = some .queued := by
  refine ⟨by simp, ?_⟩
  decide +kernel

theorem test_meets_ResetReleaseBeginsTheTickInterval :
    State.powerOn.inReset = true ∧ State.reset.inReset = false := by
  decide +kernel

theorem test_meets_NoHostAccessWhileResetIsLow :
    encodeCycle (.pop 5) =
        some (.write 0x17 5) ∧ (Instr.pop 5).wellFormed = true ∧ State.powerOn.inReset = true := by
  decide +kernel

theorem test_meets_Tick_stopped :
    State.reset.Settled ∧ State.reset.sched.running = false ∧ (after .tick State.reset).isSome = true := by
  refine ⟨⟨by rfl, by rfl⟩, ?_⟩
  decide +kernel

theorem test_meets_Tick_running :
    (scanning waitEntry).Settled ∧ (scanning waitEntry).sched.running = true ∧
      (after .tick (scanning waitEntry)).map (·.sched.dues) = some [63] := by
  refine ⟨⟨by rfl, by rfl⟩, ?_⟩
  decide +kernel

theorem test_meets_Due_offered_last :
    (withDues [63] waitEntry).inReset = false ∧ ((withDues [63] waitEntry).entry 63).run.state = .wait ∧
      ((withDues [63] waitEntry).lane 0).queue.length < 16 ∧
      (after (.due 63) (withDues [63] waitEntry)).isSome = true := by
  decide +kernel

theorem test_meets_Due_overrun_first :
    ((withDues [62, 63] (withEntry 62 cfgA (runIn .active) State.reset)).entry 62).run.state = .active ∧
      (after (.due 62) (withDues [62, 63] (withEntry 62 cfgA (runIn .active) State.reset))).isSome = true := by
  decide +kernel

def fullLane : Lane := { Lane.powerOn with queue := (List.range 16).map fun i => Fin.ofNat 64 i }

theorem test_meets_Due_full :
    (withDues [63] (withLane 0 fullLane waitEntry)).entry 63 = ⟨cfgA, runIn .wait⟩ ∧
      16 ≤ ((withDues [63] (withLane 0 fullLane waitEntry)).lane 0).queue.length ∧
      (after (.due 63) (withDues [63] (withLane 0 fullLane waitEntry))).map (fun t => (t.entry 63).run.skips) =
        some 1 := by
  decide +kernel

/-- The last due of a tick finds its lane RUNNING and IDLE: the lane takes the entry just appended. -/
theorem test_meets_Due_taken :
    let s := withDues [63] (withLane 0 { Lane.powerOn with mode := .running } waitEntry)
    (s.lane 0).queue = [] ∧ s.direct.waiting = [] ∧
      (after (.due 63) s).map (fun t => ((t.entry 63).run.state, (t.lane 0).phase, (t.entry 63).run.countdown)) =
        some (.active, .setup, 10) := by
  decide +kernel

theorem test_meets_StartScan :
    State.reset.Ready ∧ State.reset.sched.running = false ∧ (after (.startScan 0) State.reset).isSome = true := by
  refine ⟨⟨⟨by rfl, by rfl⟩, by rfl⟩, ?_⟩
  decide +kernel

theorem test_meets_StopScan :
    (scanning State.reset).Ready ∧ (scanning State.reset).sched.running = true ∧
      (after (.stopScan 0) (scanning State.reset)).isSome = true := by
  refine ⟨⟨⟨by rfl, by rfl⟩, by rfl⟩, ?_⟩
  decide +kernel

theorem test_meets_EntryEnable :
    offEntry.Ready ∧ (0x3F : Byte).toNat = (63 : EntryNo).val ∧ (offEntry.entry 63).run.state = .off ∧
      (offEntry.entry 63).cfg.valid (offEntry.profile 0) = true ∧
      (after (.entryEnable 0x3F) offEntry).map (fun t => (t.profile 0).useCount) = some 1 := by
  refine ⟨⟨⟨by rfl, by rfl⟩, by rfl⟩, ?_⟩
  decide +kernel

theorem test_meets_EntryStop_wait :
    waitEntry.Ready ∧ (waitEntry.entry 63).run.state = .wait ∧ (after (.entryStop 0x3F) waitEntry).isSome = true := by
  refine ⟨⟨⟨by rfl, by rfl⟩, by rfl⟩, ?_⟩
  decide +kernel

theorem test_meets_EntryStop_queued :
    (entryIn .queued State.reset).Ready ∧ ((entryIn .queued State.reset).entry 63).run.state = .queued ∧
      (after (.entryStop 0x3F) (entryIn .queued State.reset)).isSome = true := by
  refine ⟨⟨⟨by rfl, by rfl⟩, by rfl⟩, ?_⟩
  decide +kernel

theorem test_meets_EntryStop_active :
    (entryIn .active State.reset).Ready ∧ ((entryIn .active State.reset).entry 63).run.state = .active ∧
      (after (.entryStop 0x3F) (entryIn .active State.reset)).isSome = true := by
  refine ⟨⟨⟨by rfl, by rfl⟩, by rfl⟩, ?_⟩
  decide +kernel

theorem test_meets_EntryStop_off :
    offEntry.Ready ∧ (offEntry.entry 63).run.state = .off ∧ (after (.entryStop 0x3F) offEntry).isSome = true := by
  refine ⟨⟨⟨by rfl, by rfl⟩, by rfl⟩, ?_⟩
  decide +kernel

def faulted : State :=
  withEntry 63 cfgA { runIn .wait with health := .faulted, pending := .fault } State.reset

theorem test_meets_EntryRearm :
    faulted.Ready ∧ 64 ≤ (0x40 : Byte).toNat ∧ (State.reset.entry 63).run.state = .off ∧
      (faulted.entry 63).run.state ≠ .off ∧ (faulted.entry 63).run.health = .faulted ∧
      (after (.entryRearm 0x3F) faulted).isSome = true := by
  refine ⟨⟨⟨by rfl, by rfl⟩, by rfl⟩, ?_⟩
  decide +kernel

theorem test_meets_LaneHold_idle :
    lane3Running.Ready ∧ (lane3Running.lane 3).mode = .running ∧ (lane3Running.lane 3).phase = .idle ∧
      (after (.laneHold 3) lane3Running).isSome = true := by
  refine ⟨⟨⟨by rfl, by rfl⟩, by rfl⟩, ?_⟩
  decide +kernel

theorem test_meets_LaneHold_busy :
    shifting.Ready ∧ (shifting.lane 0).mode = .running ∧ (shifting.lane 0).phase ≠ .idle ∧
      (after (.laneHold 0) shifting).isSome = true := by
  refine ⟨⟨⟨by rfl, by rfl⟩, by rfl⟩, ?_⟩
  decide +kernel

theorem test_meets_LaneRelease_idle :
    State.reset.Ready ∧ (State.reset.lane 3).mode = .held ∧ State.reset.direct.waiting = [] ∧
      (State.reset.lane 3).queue = [] ∧ (after (.laneRelease 3) State.reset).isSome = true := by
  refine ⟨⟨⟨by rfl, by rfl⟩, by rfl⟩, ?_⟩
  decide +kernel

theorem test_meets_LaneRelease_head :
    headWaits.Ready ∧ (headWaits.lane 0).mode = .held ∧ (headWaits.lane 0).queue = 63 :: [] ∧
      (after (.laneRelease 0) headWaits).map (fun t => (t.entry 63).run.state) = some .active := by
  refine ⟨⟨⟨by rfl, by rfl⟩, by rfl⟩, ?_⟩
  decide +kernel

/-- A HELD lane with entry 63 and slot 3 waiting. -/
def releasable (streak : Nat) : State :=
  { withLane 0 { Lane.powerOn with queue := [63], streak := streak } (slotIn .queued (entryIn .queued State.reset)) with
    direct := { (slotIn .queued State.reset).direct with waiting := [3] } }

theorem test_meets_LaneRelease_slot :
    (releasable 3).Ready ∧ (releasable 3).direct.waiting = [] ++ 3 :: [] ∧
      ((releasable 3).slot 3).req.lane = 0 ∧ ((releasable 3).lane 0).streak < 4 ∧
      (after (.laneRelease 0) (releasable 3)).map (fun t => (t.slot 3).state) = some .running := by
  refine ⟨⟨⟨by rfl, by rfl⟩, by rfl⟩, ?_⟩
  decide +kernel

theorem test_meets_LaneRelease_streak :
    (releasable 4).Ready ∧ ((releasable 4).lane 0).queue = 63 :: [] ∧
      (after (.laneRelease 0) (releasable 4)).map (fun t => (t.entry 63).run.state) = some .active := by
  refine ⟨⟨⟨by rfl, by rfl⟩, by rfl⟩, ?_⟩
  decide +kernel

theorem test_meets_LaneReset_entry :
    shifting.Ready ∧ (shifting.lane 0).txn.map Txn.owner = some (.entry 63) ∧ (shifting.lane 0).phase = .shift ∧
      (after (.laneReset 0) shifting).map (fun t => (t.entry 63).run.state) = some .wait := by
  refine ⟨⟨⟨by rfl, by rfl⟩, by rfl⟩, ?_⟩
  decide +kernel

theorem test_meets_LaneReset_slot :
    slotShifting.Ready ∧ (slotShifting.lane 0).txn.map Txn.owner = some (.slot 3) ∧
      (slotShifting.slot 3).state = .running ∧
      (after (.laneReset 0) slotShifting).map (fun t => ((t.slot 3).state, (t.slot 3).doneCount)) =
        some (.failed, 1) ∧
      (after (.laneReset 0) slotShifting).map (fun t => ((t.slot 3).result[0], (t.slot 3).result[1])) =
        some (0x81, 0) := by
  refine ⟨⟨⟨by rfl, by rfl⟩, by rfl⟩, ?_⟩
  decide +kernel

theorem test_meets_DirectSubmit_queued :
    (slotIn .free State.reset).Ready ∧ ((slotIn .free State.reset).slot 3).state = .free ∧
      ((slotIn .free State.reset).profile 0).valid = true ∧ ((slotIn .free State.reset).lane 0).mode = .held ∧
      (after (.directSubmit 3) (slotIn .free State.reset)).map (fun t => t.direct.waiting) = some [3] := by
  refine ⟨⟨⟨by rfl, by rfl⟩, by rfl⟩, ?_⟩
  decide +kernel

theorem test_meets_DirectSubmit_taken :
    freeOnRunning.Ready ∧ (freeOnRunning.lane 0).mode = .running ∧ (freeOnRunning.lane 0).queue = [] ∧
      freeOnRunning.direct.waiting = [] ∧
      (after (.directSubmit 3) freeOnRunning).map (fun t => (t.slot 3).state) = some .running := by
  refine ⟨⟨⟨by rfl, by rfl⟩, by rfl⟩, ?_⟩
  decide +kernel

theorem test_meets_DirectCancel_queued :
    (slotIn .queued State.reset).Ready ∧ ((slotIn .queued State.reset).slot 3).state = .queued ∧
      (after (.directCancel 3) (slotIn .queued State.reset)).isSome = true := by
  refine ⟨⟨⟨by rfl, by rfl⟩, by rfl⟩, ?_⟩
  decide +kernel

theorem test_meets_DirectCancel_setup :
    (slotTxn .setup [] none).Ready ∧ ((slotTxn .setup [] none).slot 3).state = .running ∧
      ((slotTxn .setup [] none).lane 0).phase = .setup ∧
      (after (.directCancel 3) (slotTxn .setup [] none)).isSome = true := by
  refine ⟨⟨⟨by rfl, by rfl⟩, by rfl⟩, ?_⟩
  decide +kernel

theorem test_meets_DirectCancel_readyWait :
    (slotTxn .readyWait [] none).Ready ∧ ((slotTxn .readyWait [] none).slot 3).state = .running ∧
      ((slotTxn .readyWait [] none).lane 0).phase = .readyWait ∧
      (after (.directCancel 3) (slotTxn .readyWait [] none)).isSome = true := by
  refine ⟨⟨⟨by rfl, by rfl⟩, by rfl⟩, ?_⟩
  decide +kernel

theorem test_meets_DirectCancel_shift :
    (slotTxn .shift [] none).Ready ∧ ((slotTxn .shift [] none).slot 3).state = .running ∧
      ((slotTxn .shift [] none).lane 0).phase = .shift ∧
      (after (.directCancel 3) (slotTxn .shift [] none)).isSome = true := by
  refine ⟨⟨⟨by rfl, by rfl⟩, by rfl⟩, ?_⟩
  decide +kernel

theorem test_meets_DirectCancel_gap :
    (slotTxn .gap [] none).Ready ∧ ((slotTxn .gap [] none).slot 3).state = .running ∧
      ((slotTxn .gap [] none).lane 0).phase = .gap ∧
      (after (.directCancel 3) (slotTxn .gap [] none)).isSome = true := by
  refine ⟨⟨⟨by rfl, by rfl⟩, by rfl⟩, ?_⟩
  decide +kernel

theorem test_meets_DirectCancel_hold :
    (slotTxn .hold [] none).Ready ∧ ((slotTxn .hold [] none).slot 3).state = .running ∧
      ((slotTxn .hold [] none).lane 0).phase = .hold ∧
      (after (.directCancel 3) (slotTxn .hold [] none)).isSome = true := by
  refine ⟨⟨⟨by rfl, by rfl⟩, by rfl⟩, ?_⟩
  decide +kernel

theorem test_meets_DirectRelease :
    (slotIn .done State.reset).Ready ∧ 4 ≤ (4 : Byte).toNat ∧ (State.reset.slot 0).state = .free ∧
      ((slotIn .done State.reset).slot 3).state = .done ∧
      (after (.directRelease 3) (slotIn .done State.reset)).isSome = true := by
  refine ⟨⟨⟨by rfl, by rfl⟩, by rfl⟩, ?_⟩
  decide +kernel

theorem test_meets_QueueFlush :
    State.reset.Ready ∧ (after (.queueFlush 0) State.reset).isSome = true := by
  refine ⟨⟨⟨by rfl, by rfl⟩, by rfl⟩, ?_⟩
  decide +kernel

theorem test_meets_SoftReset :
    stoppingEntry.Settled ∧ (after (.softReset 0) stoppingEntry).map (fun t => t.cmd.endedReset) = some true := by
  refine ⟨⟨by rfl, by rfl⟩, ?_⟩
  decide +kernel

theorem test_meets_UnknownCommand :
    State.reset.Ready ∧ ((0x0300 : Word).extractLsb' 8 8) ∉ definedCodes ∧
      (after (.unknownCommand 0x0300) State.reset).isSome = true := by
  refine ⟨⟨⟨by rfl, by rfl⟩, by rfl⟩, ?_⟩
  decide +kernel

theorem test_meets_BusyRefusal :
    (∀ a, Instr.laneReset 0 ≠ .softReset a) ∧ encodeCycle (.laneReset 0) = some (.write 0x03 0x2200) ∧
      (Instr.laneReset 0).wellFormed = true ∧ stoppingEntry.cmd.inFlight = some (.entryStop 63) ∧
      (after (.laneReset 0) stoppingEntry).map (fun t => t.irq.errCode) = some .cmdBusy := by
  refine ⟨by simp, ?_⟩
  decide +kernel

theorem test_meets_OwnersRefuse_arg :
    State.reset.Ready ∧ (after (.entryEnable 64) State.reset).map (fun t => t.cmd.result) = some .badArg ∧
      (after (.laneReset 4) State.reset).map (fun t => t.cmd.result) = some .badArg := by
  refine ⟨⟨⟨by rfl, by rfl⟩, by rfl⟩, ?_⟩
  decide +kernel

theorem test_meets_OwnersRefuse_entry :
    State.reset.Ready ∧ (State.reset.entry 63).run.state = .off ∧
      (State.reset.entry 63).cfg.valid (State.reset.profile 0) = false ∧
      (after (.entryEnable 63) State.reset).map (fun t => t.cmd.result) = some .badConfig := by
  refine ⟨⟨⟨by rfl, by rfl⟩, by rfl⟩, ?_⟩
  decide +kernel

theorem test_meets_OwnersRefuse_enabled :
    waitEntry.Ready ∧ (waitEntry.entry 63).run.state ≠ .off := by
  refine ⟨⟨⟨by rfl, by rfl⟩, by rfl⟩, ?_⟩
  decide +kernel

theorem test_meets_OwnersRefuse_lane :
    State.reset.Ready ∧ (State.reset.lane 3).mode = .held ∧ (lane3Running.lane 3).mode = .running := by
  refine ⟨⟨⟨by rfl, by rfl⟩, by rfl⟩, ?_⟩
  decide +kernel

theorem test_meets_OwnersRefuse_slot :
    State.reset.Ready ∧ ((slotIn .done State.reset).slot 3).state ≠ .free ∧
      (State.reset.slot 3).req.words.toNat = 0 ∧
      (after (.directSubmit 3) State.reset).map (fun t => t.cmd.result) = some .badConfig := by
  refine ⟨⟨⟨by rfl, by rfl⟩, by rfl⟩, ?_⟩
  decide +kernel

theorem test_meets_SetupEnd :
    (entryTxn .active .setup [] none).Settled ∧ ((entryTxn .active .setup [] none).lane 0).phase = .setup ∧
      (after (.setupEnd 0 true) (entryTxn .active .setup [] none)).isSome = true := by
  refine ⟨⟨by rfl, by rfl⟩, ?_⟩
  decide +kernel

theorem test_meets_GapEnd :
    (entryTxn .active .gap [] none).Settled ∧ ((entryTxn .active .gap [] none).lane 0).phase = .gap ∧
      (after (.gapEnd 0 false) (entryTxn .active .gap [] none)).isSome = true := by
  refine ⟨⟨by rfl, by rfl⟩, ?_⟩
  decide +kernel

theorem test_meets_ReadyWaitEnds :
    waiting610.Settled ∧ (waiting610.lane 1).phase = .readyWait ∧ 32 ≤ line610.rdyLimit.toNat * 16 ∧
      (waiting610.lane 1).elapsed ≤ streamLength line610 1 1 ∧
      (after (.readyObserved 1 1) waiting610).isSome = true ∧
      (after (.readyObserved 1 32) waiting610).isSome = true ∧
      (after (.readyTimeout 1) waiting610).isSome = true := by
  refine ⟨⟨by rfl, by rfl⟩, ?_⟩
  decide +kernel

theorem test_meets_WordEnd :
    shifting.Settled ∧ (shifting.lane 0).phase = .shift ∧ bits8.length = Profile.powerOn.line.wordLen.toNat ∧
      (after (.wordEnd 0 bits8 true) shifting).isSome = true := by
  refine ⟨⟨by rfl, by rfl⟩, ?_⟩
  decide +kernel

theorem test_meets_HoldEndReleasesTheSelect :
    responded.Settled ∧ (responded.lane 0).phase = .hold ∧
      (responded.lane 0).txn.map Txn.ending = some (some .complete) ∧
      (after (.holdEnd 0) responded).isSome = true := by
  refine ⟨⟨by rfl, by rfl⟩, ?_⟩
  decide +kernel

theorem test_meets_HoldEndCompletesAStop :
    stopInFlight.Settled ∧ (stopInFlight.entry 63).run.state = .stopping ∧
      stopInFlight.cmd.inFlight = some (.entryStop 63) ∧
      (after (.holdEnd 0) stopInFlight).map (fun t => (t.entry 63).run.state) = some .off := by
  refine ⟨⟨by rfl, by rfl⟩, ?_⟩
  decide +kernel

theorem test_meets_HoldEndFinishesASlot_complete :
    (slotTxn .hold [bits8] (some .complete)).Settled ∧
      ((slotTxn .hold [bits8] (some .complete)).slot 3).state = .running ∧
      (after (.holdEnd 0) (slotTxn .hold [bits8] (some .complete))).map (fun t => (t.slot 3).state) =
        some .done := by
  refine ⟨⟨by rfl, by rfl⟩, ?_⟩
  decide +kernel

theorem test_meets_HoldEndFinishesASlot_timeout :
    (slotTxn .hold [bits8] (some .timeout)).Settled ∧
      ((slotTxn .hold [bits8] (some .timeout)).slot 3).state = .running ∧
      (after (.holdEnd 0) (slotTxn .hold [bits8] (some .timeout))).map (fun t => (t.slot 3).state) =
        some .failed := by
  refine ⟨⟨by rfl, by rfl⟩, ?_⟩
  decide +kernel

theorem test_meets_HoldEndFinishesASlot_cut :
    (slotTxn .hold [bits8] (some .cut)).Settled ∧ ((slotTxn .hold [bits8] (some .cut)).slot 3).state = .running ∧
      (after (.holdEnd 0) (slotTxn .hold [bits8] (some .cut))).map (fun t => (t.slot 3).state) =
        some .cancelled := by
  refine ⟨⟨by rfl, by rfl⟩, ?_⟩
  decide +kernel

theorem test_meets_DeselectEnd_running :
    waitLast.Settled ∧ (waitLast.lane 0).mode = .running ∧ (waitLast.lane 0).queue = [] ∧
      waitLast.direct.waiting = [] ∧ (after (.deselectEnd 0) waitLast).isSome = true := by
  refine ⟨⟨by rfl, by rfl⟩, ?_⟩
  decide +kernel

theorem test_meets_DeselectEnd_holdPending :
    holdInFlight.Settled ∧ (holdInFlight.lane 0).mode = .holdPending ∧
      holdInFlight.cmd.inFlight = some (.laneHold 0) ∧
      (after (.deselectEnd 0) holdInFlight).map (fun t => (t.lane 0).mode) = some .held := by
  refine ⟨⟨by rfl, by rfl⟩, ?_⟩
  decide +kernel

/-- Lane 0 at the end of DESELECT with entry 63 and slot 3 waiting and a STREAK. -/
def contested (streak : Nat) : State :=
  { withLane 0
      { Lane.powerOn with
        mode := .running, phase := .deselect, queue := [63], streak := streak
        txn := some (txnOf (.slot 0) 2 [] (some .complete)) } (slotIn .queued (entryIn .queued State.reset)) with
    direct := { (slotIn .queued State.reset).direct with waiting := [3] } }

theorem test_meets_Arbiter_slot :
    (contested 3).Settled ∧ (contested 3).direct.waiting = [] ++ 3 :: [] ∧ ((contested 3).slot 3).req.lane = 0 ∧
      ((contested 3).lane 0).streak < 4 ∧
      (after (.deselectEnd 0) (contested 3)).map (fun t => ((t.slot 3).state, (t.lane 0).streak)) =
        some (.running, 4) := by
  refine ⟨⟨by rfl, by rfl⟩, ?_⟩
  decide +kernel

theorem test_meets_Arbiter_entry :
    (contested 4).Settled ∧ ((contested 4).lane 0).queue = 63 :: [] ∧ ((contested 4).lane 0).streak = 4 ∧
      (after (.deselectEnd 0) (contested 4)).map (fun t => ((t.entry 63).run.state, (t.lane 0).streak)) =
        some (.active, 0) := by
  refine ⟨⟨by rfl, by rfl⟩, ?_⟩
  decide +kernel

/-- STREAK below 4 and no slot waiting: the ordinary scan case. -/
theorem test_meets_Arbiter_scan :
    let s := { contested 0 with direct := State.reset.direct }
    s.inReset = false ∧ (s.lane 0).streak = 0 ∧ s.direct.waiting = [] ∧
      (after (.deselectEnd 0) s).map (fun t => (t.entry 63).run.state) = some .active := by
  decide +kernel

theorem test_meets_AtMostOneSelect :
    (shifting.lane 0).selectLevel 0 = (shifting.lane 0).selPolarity.getLsbD 0 ∧ (shifting.lane 0).phase = .shift ∧
      (shifting.lane 0).txn.map Txn.select = some 0 := by
  decide +kernel

theorem test_meets_SampleStaysInItsRange :
    1 ≤ cfg213.fieldWidth.toNat ∧ cfg213.fieldWidth.toNat ≤ 32 ∧ cfg213.signed = false ∧ cfg214.signed = true := by
  decide +kernel

theorem test_meets_HysteresisOfZones :
    ({ cfg213 with hyst := 0 } : EntryConfig).hyst.toNat = 0 ∧
      numberOf false cfg213.threshA ≤ numberOf false cfg213.threshB := by
  decide +kernel

theorem test_meets_Failures_timeout :
    timedOut.Settled ∧ (timedOut.entry 63).run.state = .active ∧ (timedOut.entry 63).run.health ≠ .faulted ∧
      (after (.holdEnd 0) timedOut).map (fun t => ((t.entry 63).run.health, (t.entry 63).run.failRun)) =
        some (.suspect, 1) := by
  refine ⟨⟨by rfl, by rfl⟩, ?_⟩
  decide +kernel

/-- A response that fails its check at the fault limit. -/
def atLimit : State :=
  laneIn .hold .running (txnOf (.entry 63) 2 [List.replicate 8 false] (some .complete))
    (withEntry 63 cfgA { runIn .active with failRun := 2, health := .suspect } State.reset)

theorem test_meets_Failures_mismatch :
    atLimit.Settled ∧ (atLimit.entry 63).run.state = .active ∧
      checkPasses cfgA [wordValue .msbFirst (List.replicate 8 false)] = false ∧
      (after (.holdEnd 0) atLimit).map (fun t => ((t.entry 63).run.health, t.queue.records.length)) =
        some (.faulted, 1) := by
  refine ⟨⟨by rfl, by rfl⟩, ?_⟩
  decide +kernel

theorem test_meets_NothingToFold_empty (n : EntryNo) : NothingToFold n State.reset.queue := by
  intro ahead behind x h
  have h : ([] : List Record) = ahead ++ x :: behind := h
  simp at h

theorem test_meets_NothingToFold_held : NothingToFold 1 oneHeld.queue := by
  intro ahead behind x h _ _
  have h : [record 1 0] = ahead ++ x :: behind := h
  cases ahead with
  | nil => exact .inr ⟨rfl, rfl⟩
  | cons y ys => simp at h

/-- The responded entry in another mode, judged against a BASE. -/
def respondedIn (mode : ChangeMode) (signed : Bool) (a : Long) (base : Long) (czone : Zone) : State :=
  laneIn .hold .running (txnOf (.entry 63) 2 [bits8] (some .complete))
    (withEntry 63 { cfgA with mode := mode, signed := signed, threshA := a, threshB := a }
      { runIn .active with base := base, czone := czone, bzone := czone } State.reset)

/-- What HOLD_END posts for the responded entry in a mode. -/
def reported (s : State) : Option (List (Long × Long × Zone)) :=
  (after (.holdEnd 0) s).map fun t => t.queue.records.map fun r => (r.old, r.new, r.newZone)

theorem test_meets_ChangedSample :
    responded.Settled ∧ (responded.entry 63).run.state = .active ∧ (responded.entry 63).run.primed = true ∧
      checkPasses cfgA [wordValue .msbFirst bits8] = true ∧
      sampleOf cfgA (responseString 8 [wordValue .msbFirst bits8]) = 0x81 ∧
      reported responded = some [(0, 0x81, .none)] := by
  refine ⟨⟨by rfl, by rfl⟩, ?_⟩
  decide +kernel

/-- The sample 0x81 in each mode, at the bound of its condition and just inside it. -/
theorem test_meets_ChangedSample_modes :
    [respondedIn .change false 0 0x81 .none, respondedIn .delta false 1 0x80 .none,
        respondedIn .delta false 2 0x80 .none, respondedIn .zone false 0x81 0 .low,
        respondedIn .zone false 0x81 0 .mid, respondedIn .every true 0 0xFFFFFF81 .none].map reported =
      [some [], some [(0x80, 0x81, .none)], some [], some [(0, 0x81, .mid)], some [],
        some [(0xFFFFFF81, 0xFFFFFF81, .none)]] := by
  decide +kernel

theorem test_meets_FirstSample :
    ({ runIn .wait with primed := false } : EntryRun).health ≠ .faulted ∧ cfgA.initialReport = false ∧
      (faulted.entry 63).run.health = .faulted ∧ faulted.queue.records.length < 32 := by
  decide +kernel

/-- Section 2.13, row 1, is the case of INITIAL_REPORT 1: see `test_213_row1`. -/
theorem test_meets_FirstSample_initial :
    cfg213.initialReport = true ∧ EntryRun.powerOn.primed = false ∧ EntryRun.powerOn.health ≠ .faulted ∧
      State.reset.queue.records.length < 32 := by
  decide +kernel

def changeRequest (n : EntryNo) (initial : Bool) (kind : RecordKind) : Request where
  kind := kind
  entry := n
  old := 0
  new := 5
  oldZone := .none
  newZone := .none
  cause := .none
  initial := initial
  skipped := false

theorem test_meets_ChangeFolds :
    let s := withRecords true [record 1 0, record 2 1, record 3 2] State.reset
    s.queue.records = [record 1 0] ++ record 2 1 :: [record 3 2] ∧
      (post (changeRequest 2 false .change) s).queue.records.map (·.count) = [1, 2, 1] := by
  decide +kernel

/-- Entry 0's newest record, the held head alone, is a FAULT behind 31 records of others. -/
def fullOfFaults : State :=
  withRecords false (((List.range 31).map fun i => record 1 (BitVec.ofNat 16 i)) ++ [{ record 0 31 with kind := .fault }])
    State.reset

theorem test_meets_NothingToFold_fault : NothingToFold 0 fullOfFaults.queue := by
  intro ahead behind x h hx _
  have hm : x ∈ fullOfFaults.queue.records := by rw [h]; simp
  have key : ∀ y ∈ fullOfFaults.queue.records, y.entry = 0 → y.kind ≠ .change := by decide +kernel
  exact .inl (key x hm hx)

theorem test_meets_DeferredReport :
    fullOfFaults.queue.records.length = 32 ∧
      ((post (changeRequest 0 false .change) fullOfFaults).entry 0).run.pending = .change ∧
      ((post (changeRequest 63 true .change) fullOfFaults).entry 63).run.pending = .initial ∧
      ((post (changeRequest 63 false .fault)
        (fullQueue (withEntry 63 cfgA { runIn .wait with pending := .recover } State.reset))).entry
          63).run.overwritten = true := by
  decide +kernel

theorem test_meets_HeadInfoRead :
    oneRecord.Settled ∧ State.reset.queue.records = [] ∧ oneRecord.queue.records = record 1 0 :: [] ∧
      (after .headInfoRead oneRecord).map (fun t => t.port.data) = some (some 0x0101) := by
  refine ⟨⟨by rfl, by rfl⟩, ?_⟩
  decide +kernel

theorem test_meets_HeadFields :
    oneHeld.Settled ∧ oneHeld.queue.held = true ∧ (record 1 0).count < 256 ∧ oneRecord.queue.held = false ∧
      readRegister oneHeld 0x12 = some 1 ∧ readRegister oneRecord 0x12 = some 0 := by
  refine ⟨⟨by rfl, by rfl⟩, ?_⟩
  decide +kernel

theorem test_meets_Pop :
    oneHeld.Settled ∧ oneHeld.queue.held = true ∧ oneHeld.queue.records = record 1 0 :: [] ∧
      (after (.pop 0) oneHeld).map (fun t => t.queue.records) = some [] := by
  refine ⟨⟨by rfl, by rfl⟩, ?_⟩
  decide +kernel

/-- 32 records with the head held; entry 62 owes a CHANGE whose value has come back, entry 63 a FAULT. -/
def owing : State :=
  fullQueue (withEntry 62 cfgA { runIn .wait with pending := .change }
    (withEntry 63 cfgA { runIn .wait with pending := .fault, overwritten := true } State.reset))

theorem test_meets_Pop_drains :
    owing.Settled ∧ owing.queue.held = true ∧ (∀ n, ReportOwed (owing.entry n) ↔ n = 63) ∧
      (after (.pop 0) owing).map (fun t => (t.queue.records.length, (t.entry 62).run.pending)) =
        some (32, .none) := by
  refine ⟨⟨by rfl, by rfl⟩, by rfl, ?_, by decide +kernel⟩
  intro n
  rw [reportOwed_iff]
  revert n
  decide +kernel

/-- 32 records with the head held; entry 63 owes a report of a kind in a mode, with LAST 1 against BASE 0. -/
def owes (kind : Pending) (mode : ChangeMode) : State :=
  fullQueue (withEntry 63 { cfgA with mode := mode, threshA := 2 }
    { runIn .wait with pending := kind, last := 1, lastCause := .readyTimeout } State.reset)

/-- What a POP posts for it: KIND, OLD and NEW. -/
def drained (s : State) : Option (List (RecordKind × Long × Long)) :=
  (after (.pop 0) s).map fun t => (t.queue.records.drop 31).map fun r => (r.kind, r.old, r.new)

theorem test_meets_Pop_drains_kinds :
    [owes .initial .change, owes .change .change, owes .recover .change, owes .fault .change,
        owes .change .every].map drained =
      [some [(.change, 0, 1)], some [(.change, 0, 1)], some [(.recover, 0, 1)], some [(.fault, 1, 0)],
        some [(.change, 0, 1)]] := by
  decide +kernel

/-- In DELTA and ZONE modes the pending CHANGE has lapsed, and nothing is posted. -/
theorem test_meets_Pop_lapses : [owes .change .delta, owes .change .zone].map drained = [some [], some []] := by
  decide +kernel

theorem test_meets_Pop_nothing_owed (n : EntryNo) : ¬ReportOwed ((owes .change .delta).entry n) := by
  rw [reportOwed_iff]
  revert n
  decide +kernel

theorem test_meets_PopWithoutAnOpening :
    State.reset.Settled ∧ State.reset.queue.held = false ∧ (after (.pop 0) State.reset).isSome = true := by
  refine ⟨⟨by rfl, by rfl⟩, ?_⟩
  decide +kernel

theorem test_meets_RegisterAccesses :
    State.reset.Settled ∧ (after (.queueLevelWrite 33) State.reset).map (fun t => t.queue.level) = some 32 ∧
      (after (.tickDivWrite 1) State.reset).map (fun t => t.sched.tickDiv) = some 1 ∧
      (after (.tickDivWrite 0) State.reset).map (fun t => t.irq.errCode) = some .badTick ∧
      (after (.ageLimitWrite 9) State.reset).isSome = true ∧
      (after (.irqCauseWrite 0xF) State.reset).isSome = true ∧
      (after (.irqEnableWrite 0xF) State.reset).isSome = true ∧ (after .timeHiRead State.reset).isSome = true := by
  refine ⟨⟨by rfl, by rfl⟩, ?_⟩
  decide +kernel

theorem test_meets_TableSelect :
    State.reset.Settled ∧
      (after (.tableSelectWrite 0x003F) State.reset).map (fun t => t.port.select) = some (.entry 63) ∧
      (after (.tableSelectWrite 0x010F) State.reset).map (fun t => t.port.select) = some (.profile 15) ∧
      (after (.tableSelectWrite 0x0203) State.reset).map (fun t => t.port.select) = some (.lane 3) ∧
      (after (.tableSelectWrite 0x0303) State.reset).map (fun t => t.port.select) = some (.slot 3) ∧
      (after (.tableSelectWrite 0x0110) State.reset).map (fun t => t.irq.errCode) = some .badIndex ∧
      (after (.tableSelectWrite 0x0304) State.reset).map (fun t => t.irq.errCode) = some .badIndex ∧
      (after (.tableOffsetWrite 0x30) State.reset).map (fun t => t.port.offset) = some 0 := by
  refine ⟨⟨by rfl, by rfl⟩, ?_⟩
  decide +kernel

def pointing (x : Selection) (i : BitVec 6) (s : State) : State :=
  { s with port := { s.port with select := x, offset := i } }

theorem test_meets_TableDataRead_profile :
    (pointing (.profile 15) 0 State.reset).Settled ∧
      (after .tableDataRead (pointing (.profile 15) 0 State.reset)).map (fun t => (t.port.data, t.port.offset)) =
        some (some 0x0008, 1) := by
  refine ⟨⟨by rfl, by rfl⟩, ?_⟩
  decide +kernel

theorem test_meets_TableDataRead_latch :
    (pointing (.entry 63) 0x20 waitEntry).Settled ∧
      (after .tableDataRead (pointing (.entry 63) 0x20 waitEntry)).map (fun t => t.port.data) = some (some 0x4001) ∧
      (after .tableDataRead (pointing (.entry 63) 0x2F State.reset)).map (fun t => t.port.offset) = some 0 := by
  refine ⟨⟨by rfl, by rfl⟩, ?_⟩
  decide +kernel

theorem test_meets_TableDataRead_lane :
    (pointing (.lane 3) 1 State.reset).Settled ∧
      (after .tableDataRead (pointing (.lane 3) 1 State.reset)).map (fun t => t.port.data) = some (some 0x0002) ∧
      (after .tableDataRead (pointing (.lane 3) 0x13 State.reset)).map (fun t => t.port.data) =
        some (some 0) := by
  refine ⟨⟨by rfl, by rfl⟩, ?_⟩
  decide +kernel

theorem test_meets_TableDataWrite_applied :
    (pointing (.entry 63) 3 State.reset).Settled ∧
      (after (.tableDataWrite 7) (pointing (.entry 63) 3 State.reset)).map (fun t => (t.entry 63).cfg.period) = some 7 ∧
      (after (.tableDataWrite 0x000A) (pointing (.lane 3) 0 State.reset)).map (fun t => (t.lane 3).minDeselect) = some 1 ∧
      (after (.tableDataWrite 0xABCD) (pointing (.slot 3) 0x17 State.reset)).map (fun t => (t.slot 3).req.out[7]) =
        some 0xABCD := by
  refine ⟨⟨by rfl, by rfl⟩, ?_⟩
  decide +kernel

theorem test_meets_TableDataWrite_ignored :
    (pointing (.entry 63) 3 State.reset).Settled ∧ (waitEntry.entry 63).run.state ≠ .off ∧
      (waitEntry.profile 0).useCount ≠ 0 ∧
      (after (.tableDataWrite 7) (pointing (.entry 63) 0x19 waitEntry)).map (fun t => t.irq.errCode) = some .tableLocked ∧
      (after (.tableDataWrite 7) (pointing (.profile 0) 5 waitEntry)).map (fun t => t.irq.errCode) = some .tableLocked ∧
      (after (.tableDataWrite 7) (pointing (.entry 63) 0x27 State.reset)).map (fun t => t.irq.errCode) = some .readOnly ∧
      (after (.tableDataWrite 7) (pointing (.slot 3) 3 State.reset)).map (fun t => t.irq.errCode) =
        some .none := by
  refine ⟨⟨by rfl, by rfl⟩, ?_⟩
  decide +kernel

theorem test_meets_ConfigurationReadsBack :
    entryConfigWord (writeEntryConfig 0x01 0xFFFF cfgA) 0x01 = 0x0377 ∧
      entryConfigWord (writeEntryConfig 0x0D 0x1234 cfgA) 0x0D = 0x1234 ∧
      profileWord (writeProfileConfig 0 0xFFFF Profile.powerOn) 0 = 0x037F ∧
      laneConfigWord (writeLaneConfig 0x00F5 Lane.powerOn) = 0x0105 ∧
      slotWord { Slot.powerOn with req := writeSlotRequest 0 0xFFFF Slot.powerOn.req } 0 = 0x1FFF := by decide

theorem test_meets_RegisterWrite :
    State.reset.Settled ∧ (0x1D : Addr) ∈ readOnlyAddrs ∧ (0x1F : Addr) ∈ unassignedAddrs ∧
      (after (.registerWrite 0x1D 0) State.reset).map (fun t => t.irq.errOffset) = some 0x3A ∧
      (after (.registerWrite 0x1F 0) State.reset).map (fun t => t.irq.accessErr) = some false := by
  refine ⟨⟨by rfl, by rfl⟩, ?_⟩
  decide +kernel

theorem test_meets_InterruptLine :
    oneRecord.inReset = false ∧ oneRecord.sched.dues = [] ∧
      ({ oneRecord with irq := { oneRecord.irq with enable := 1 } } : State).irqLow = true := by
  decide +kernel

theorem test_reads_status :
    readRegister oneHeld 0x02 = some 0x0104 ∧ readRegister shifting 0x1D = some 0x2224 ∧
      readRegister slotShifting 0x1C = some 0x2000 ∧ readRegister stoppingEntry 0x02 = some 0x0002 := by
  decide +kernel

theorem test_meets_HostCycles :
    decodeCycle (.write 0x03 0x7F55) = some (.softReset 0x55) := by
  decide +kernel


/-! ### The laws hold in a busy state too -/

/-- Entry 63 ACTIVE on lane 0 in SHIFT, entry 62 QUEUED there, slot 3 QUEUED, a held record, a stop of no entry. -/
def busy : State :=
  { withRecords true [record 5 0]
      (withLane 0
        { Lane.powerOn with
          mode := .running, phase := .shift, queue := [62], txn := some (txnOf (.entry 63) 0 [] none) }
        (raiseUse 0 (raiseUse 0 (withEntry 62 cfgA (runIn .queued) (slotIn .queued (entryIn .active State.reset)))))) with
    direct := { (slotIn .queued State.reset).direct with waiting := [3] }
    pending := [.wordEnd 0 bits8 true] }

theorem test_busy_steps : (match step busy with | .next _ => true | _ => false) = true := by decide +kernel

theorem test_meets_StepKeepsTheChangeQueue : QueueLaw busy := by
  refine ⟨by decide +kernel, ?_, by decide +kernel, by decide +kernel⟩
  show (0 : Word) + 1 = 1
  decide

theorem test_meets_StepKeepsPendingReports : PendingLaw busy := by
  unfold PendingLaw
  decide +kernel

theorem test_meets_StepKeepsTheBounds : LaneLaw busy ∧ CounterLaw busy ∧ UsedValidLaw busy := by
  refine ⟨?_, ?_, ?_⟩
  · intro l
    refine ⟨?_, ?_, ?_, ?_, ?_, ?_⟩
    · revert l; decide +kernel
    · revert l; decide +kernel
    · revert l; decide +kernel
    · revert l; decide +kernel
    · intro x _ hp
      have : ∀ l : LaneNo, (busy.lane l).phase ≠ .hold := by decide +kernel
      exact absurd hp (this l)
    · revert l; decide +kernel
  · unfold CounterLaw
    decide +kernel
  · unfold UsedValidLaw
    decide +kernel

theorem test_meets_StepKeepsMembership : MembershipLaw busy := by
  unfold MembershipLaw
  decide +kernel

theorem test_meets_StepKeepsUseCounts : UseLaw busy := by
  unfold UseLaw
  decide +kernel

theorem test_meets_StepKeepsTheOwners : OwnerLaw busy := by
  unfold OwnerLaw
  decide +kernel

theorem test_meets_StepKeepsTheCommandInFlight : FlightLaw busy := by
  unfold FlightLaw
  decide +kernel

end Sys2Proof.Tests
end

section
/-! SUPPORT. Proofs of the statements of chapter 3 on a posting request (fold, deferral) and on a POP of a head that
is not held. -/

namespace Sys2Proof.Machine

variable {s : State} {r : Request}

/-! ### The answers, applied to the entry -/

/-- The answer "reported" to a CHANGE request (R40, R55). -/
theorem entry_applyReported_change (hk : r.kind = .change) (m : EntryNo) :
    (applyReported r s).entry m =
      if r.entry = m then
        { s.entry r.entry with
          run := { (s.entry r.entry).run with skipFlag := false, base := r.new, bzone := r.newZone } }
      else s.entry m := by
  simp [applyReported, hk]

/-- The answer "deferred" where the cell of the table of R62 is known. -/
theorem run_applyDeferred {p : Pending} {mark : Bool}
    (hcell : deferTable (s.entry r.entry).run.pending (requestColumn r) = (p, mark)) :
    ((applyDeferred r s).entry r.entry).run =
      { (s.entry r.entry).run with
        pending := p, overwritten := (s.entry r.entry).run.overwritten || mark } := by
  simp [applyDeferred, hcell]

theorem entry_applyDeferred_of_ne {m : EntryNo} (hm : m ≠ r.entry) : (applyDeferred r s).entry m = s.entry m := by
  simp [applyDeferred, Ne.symm hm]

/-! ### The fold -/

/-- The newest record of the entry takes the fold when it is a CHANGE that is not the held head (R51). -/
theorem foldTarget_append {n : EntryNo} {q : ChangeQueue} {ahead behind : List Record} {x : Record}
    (hq : q.records = ahead ++ x :: behind) (hx : x.entry = n) (hb : ∀ y ∈ behind, y.entry ≠ n)
    (hk : x.kind = .change) (hheld : q.held = false ∨ ahead ≠ []) :
    foldTarget n q = some ahead.length := by
  have hnewest : newestOf n q.records = some ahead.length := hq ▸ newestOf_append hx hb
  have hrecord : q.records[ahead.length]? = some x := by simp [hq]
  have hfree : ¬(ahead.length = 0 ∧ q.held = true) := by
    rintro ⟨hlen, hh⟩
    rcases hheld with hh' | ha
    · simp [hh] at hh'
    · exact ha (List.eq_nil_of_length_eq_zero hlen)
  simp only [foldTarget, hnewest, hrecord, hk, hfree, not_false_eq_true, and_self, if_true]

/-- A fold rewrites the one record where it stands (R52). -/
theorem foldAt_queue {ahead behind : List Record} {x : Record} (hq : s.queue.records = ahead ++ x :: behind) :
    (foldAt ahead.length r s).queue =
      { s.queue with records := ahead ++ foldRecord r s.sched.time x :: behind } := by
  simp [foldAt, hq, List.modify_eq_set_getElem?]

theorem post_fold {i : Nat} (hk : r.kind = .change) (hp : (s.entry r.entry).run.pending = .none)
    (hf : foldTarget r.entry s.queue = some i) : post r s = applyReported r (foldAt i r s) := by
  simp [post, hk, hp, hf]

/-! ### The deferral -/

/-- A request that finds the queue full and no record to fold into is deferred (R51, R54). -/
theorem post_deferred (hfull : Config.changeQueueSize ≤ s.queue.records.length)
    (hfold : r.kind = .change → (s.entry r.entry).run.pending = .none → NothingToFold r.entry s.queue) :
    post r s = applyDeferred r s := by
  rcases post_cases r s with ⟨i, hp, hf, hk, _⟩ | ⟨hroom, _⟩ | ⟨_, e⟩
  · simp [foldTarget_none (hfold hk hp)] at hf
  · exact absurd hroom (Nat.not_lt.2 hfull)
  · exact e

/-! ### The refused POP -/

/-- A POP with no head held is an access error and nothing else (R60). -/
theorem execPop_not_held (v : Word) (hs : s.Settled) (hh : s.queue.held = false) :
    execPop v s = .next (accessError .popNotHeld 0x2E { s with port := undriven s.port }) := by
  rw [execPop, hostWrite_settled hs]
  simp only [hh, Bool.false_eq_true, if_false]

/-! ### The statements -/

/-- Settles O40: the record with no other of its entry behind it is the fold's target. -/
theorem changeFoldsIntoAnUnheldRecord : Obligations.ChangeFoldsIntoAnUnheldRecord := by
  intro r ahead behind x s hk hq hx hb hxk hheld hp
  have hpost : post r s = applyReported r (foldAt ahead.length r s) :=
    post_fold hk hp (foldTarget_append hq hx hb hxk hheld)
  rw [hpost]
  refine ⟨?_, ?_, fun m hm => ?_⟩
  · rw [applyReported_queue, foldAt_queue hq, foldRecord]
  · rw [entry_applyReported_change hk, if_pos rfl, entry_congr (foldAt_entries ..)]
  · rw [entry_applyReported_change hk, if_neg (Ne.symm hm), entry_congr (foldAt_entries ..)]

/-- Settles O41: every request that finds no fold and no room is deferred, and each claim names one cell of the
table. -/
theorem deferredReportFollowsTheTable : Obligations.DeferredReportFollowsTheTable := by
  intro r s hfull hfold
  rw [post_deferred hfull.ge hfold]
  refine ⟨fun hk hi hp => ?_, fun hk hi => ?_, fun hk => ?_, fun hk => ?_, applyDeferred_queue s r,
    fun m hm => entry_applyDeferred_of_ne hm⟩
  · have hcol : requestColumn r = .initial := by simp [requestColumn, hk, hi]
    exact run_applyDeferred (by rw [hp, hcol]; rfl)
  · have hcol : requestColumn r = .change := by simp [requestColumn, hk, hi]
    refine ⟨?_, ?_, ?_, ?_⟩ <;> exact fun hp => run_applyDeferred (by rw [hp, hcol]; rfl)
  · have hcol : requestColumn r = .fault := by simp [requestColumn, hk]
    refine ⟨?_, ?_, ?_, ?_, ?_⟩ <;> exact fun hp => run_applyDeferred (by rw [hp, hcol]; rfl)
  · have hcol : requestColumn r = .recover := by simp [requestColumn, hk]
    refine ⟨?_, ?_⟩ <;> exact fun hp => run_applyDeferred (by rw [hp, hcol]; rfl)

/-- Settles O44. The access is a host write, so D15 to D0 are driven by nothing after it. -/
theorem popWithoutAnOpeningIsRefused : Obligations.PopWithoutAnOpeningIsRefused :=
  fun v _ hs hh => ⟨none, execPop_not_held v hs hh⟩

end Sys2Proof.Machine
end

section
/-! SUPPORT. Proof of the statement of chapter 9 on a word written to COMMAND while a command is in flight (BUSY). -/

namespace Sys2Proof.Machine

variable {s : State}

/-! ### The rows of a write to COMMAND -/

theorem hasDefinedCode_undefined {w : Word} (h : w.extractLsb' 8 8 ∉ definedCodes) : hasDefinedCode w = false := by
  simp [hasDefinedCode, commandOf_undefined h]

/-- Every row that is a write to COMMAND (R157): SOFT_RESET, a word with an undefined code, or a command handed to
an owner. -/
theorem exec_commandWrite_cases {c : Instr} {w : Word} (h : encodeCycle c = some (.write 0x03 w))
    (hwf : c.wellFormed = true) :
    (∃ a, c = .softReset a) ∨
    (∃ v, c = .unknownCommand v ∧ v.extractLsb' 8 8 ∉ definedCodes) ∨
    ∃ code arg owner, ∀ s, exec c s = hostCommand code arg owner s := by
  cases c with
  | softReset a => exact .inl ⟨a, rfl⟩
  | unknownCommand v => exact .inr (.inl ⟨v, rfl, by simpa [Instr.wellFormed] using hwf⟩)
  | startScan a => exact .inr (.inr ⟨0x01, a, startScanOwner, fun _ => rfl⟩)
  | stopScan a => exact .inr (.inr ⟨0x02, a, stopScanOwner, fun _ => rfl⟩)
  | entryEnable a => exact .inr (.inr ⟨0x10, a, entryEnableOwner a, fun _ => rfl⟩)
  | entryStop a => exact .inr (.inr ⟨0x11, a, entryStopOwner a, fun _ => rfl⟩)
  | entryRearm a => exact .inr (.inr ⟨0x12, a, entryRearmOwner a, fun _ => rfl⟩)
  | laneHold a => exact .inr (.inr ⟨0x20, a, laneHoldOwner a, fun _ => rfl⟩)
  | laneRelease a => exact .inr (.inr ⟨0x21, a, laneReleaseOwner a, fun _ => rfl⟩)
  | laneReset a => exact .inr (.inr ⟨0x22, a, laneResetOwner a, fun _ => rfl⟩)
  | directSubmit a => exact .inr (.inr ⟨0x30, a, directSubmitOwner a, fun _ => rfl⟩)
  | directCancel a => exact .inr (.inr ⟨0x31, a, directCancelOwner a, fun _ => rfl⟩)
  | directRelease a => exact .inr (.inr ⟨0x32, a, directReleaseOwner a, fun _ => rfl⟩)
  | queueFlush a => exact .inr (.inr ⟨0x40, a, queueFlushOwner, fun _ => rfl⟩)
  | registerWrite a v =>
    -- COMMAND is neither read-only nor unassigned, so the write is no REGISTER_WRITE.
    simp only [encodeCycle, Option.some.injEq, BusCycle.write.injEq] at h
    obtain ⟨rfl, -⟩ := h
    simp [Instr.wellFormed, readOnlyAddrs, unassignedAddrs] at hwf
  | _ => simp [encodeCycle] at h

/-! ### BUSY -/

/-- A command handed to an owner is refused before the owner sees it (R160). -/
theorem hostCommand_busy {code arg : Byte} {owner : State → CmdAnswer} {f : InFlight} (hs : s.Settled)
    (hf : s.cmd.inFlight = some f) :
    hostCommand code arg owner s = .next (accessError .cmdBusy 0x06 { s with port := undriven s.port }) := by
  rw [hostCommand, hostWrite_settled hs]
  simp only [takeCommand, hf]

/-- BUSY comes before UNKNOWN (R157, R160). -/
theorem execUnknownCommand_busy {w : Word} {f : InFlight} (hw : w.extractLsb' 8 8 ∉ definedCodes) (hs : s.Settled)
    (hf : s.cmd.inFlight = some f) :
    execUnknownCommand w s = .next (accessError .cmdBusy 0x06 { s with port := undriven s.port }) := by
  simp only [execUnknownCommand, hasDefinedCode_undefined hw, Bool.false_eq_true, if_false, hostWrite_settled hs, hf]

/-- Settles O23, by the rows of a write to COMMAND. The access is a host write, so D15 to D0 are driven by nothing
after it. -/
theorem busyRefusal : Obligations.BusyRefusal := by
  intro c w f s henc hwf hreset hs hf
  refine ⟨none, ?_⟩
  rcases exec_commandWrite_cases henc hwf with ⟨a, rfl⟩ | ⟨v, rfl, hv⟩ | ⟨code, arg, owner, hexec⟩
  · exact absurd rfl (hreset a)
  · exact execUnknownCommand_busy hv hs hf
  · exact (hexec s).trans (hostCommand_busy hs hf)

end Sys2Proof.Machine
end

section
/-! SUPPORT. What the operations that several commands share give when a table is read after them: use counts,
an entry reaching OFF, the start of a transaction, the arbiter's two choices, the delivery to a slot. -/

namespace Sys2Proof.Machine

variable (s : State)

/-! ### Use counts and OFF -/

@[simp] theorem profile_raiseUse (p q : ProfileNo) :
    (raiseUse p s).profile q =
      if p = q then { s.profile p with useCount := (s.profile p).useCount + 1 } else s.profile q := by
  simp [raiseUse]

@[simp] theorem profile_dropUse (p q : ProfileNo) :
    (dropUse p s).profile q =
      if p = q then { s.profile p with useCount := (s.profile p).useCount - 1 } else s.profile q := by
  simp [dropUse]

@[simp] theorem entry_reachOff (n m : EntryNo) :
    (reachOff n s).entry m =
      if n = m then
        { s.entry n with run := { (s.entry n).run with state := .off, pending := .none, overwritten := false } }
      else s.entry m := by
  simp [reachOff]

@[simp] theorem profile_reachOff (n : EntryNo) (q : ProfileNo) :
    (reachOff n s).profile q =
      if (s.entry n).cfg.profile = q then
        { s.profile (s.entry n).cfg.profile with useCount := (s.profile (s.entry n).cfg.profile).useCount - 1 }
      else s.profile q := by
  simp [reachOff]

@[simp] theorem lane_reachOff (n : EntryNo) (l : LaneNo) : (reachOff n s).lane l = s.lane l := rfl
@[simp] theorem slot_reachOff (n : EntryNo) (k : SlotNo) : (reachOff n s).slot k = s.slot k := rfl

/-! ### The end of a command in flight -/

@[simp] theorem entry_completeFlight (f : InFlight) (r : CmdResult) (n : EntryNo) :
    (completeFlight f r s).entry n = s.entry n := by
  unfold completeFlight; split <;> rfl

@[simp] theorem profile_completeFlight (f : InFlight) (r : CmdResult) (p : ProfileNo) :
    (completeFlight f r s).profile p = s.profile p := by
  unfold completeFlight; split <;> rfl

@[simp] theorem lane_completeFlight (f : InFlight) (r : CmdResult) (l : LaneNo) :
    (completeFlight f r s).lane l = s.lane l := by
  unfold completeFlight; split <;> rfl

@[simp] theorem slot_completeFlight (f : InFlight) (r : CmdResult) (k : SlotNo) :
    (completeFlight f r s).slot k = s.slot k := by
  unfold completeFlight; split <;> rfl

@[simp] theorem direct_completeFlight (f : InFlight) (r : CmdResult) :
    (completeFlight f r s).direct = s.direct := by
  unfold completeFlight; split <;> rfl

@[simp] theorem queue_completeFlight (f : InFlight) (r : CmdResult) :
    (completeFlight f r s).queue = s.queue := by
  unfold completeFlight; split <;> rfl

@[simp] theorem pending_completeFlight (f : InFlight) (r : CmdResult) :
    (completeFlight f r s).pending = s.pending := by
  unfold completeFlight; split <;> rfl

@[simp] theorem inFlight_completeFlight (f : InFlight) (r : CmdResult) :
    (completeFlight f r s).cmd.inFlight = if s.cmd.inFlight = some f then none else s.cmd.inFlight := by
  unfold completeFlight; split <;> rfl

/-! ### The start of a transaction -/

/-- A lane that has begun a transaction (R107, R120). -/
def begun (owner : Owner) (select : SelectNo) (line : LineProfile) (words : Nat) (L : Lane) : Lane :=
  { L with
    phase := .setup
    elapsed := 0
    sckRest := idleLevel line
    sdoRest := false
    txn :=
      some
        { owner := owner, select := select, line := line, wordNo := 0, words := words, captured := [],
          bitNo := 1, cancelMark := false, ending := none } }

@[simp] theorem lane_startTxn (l m : LaneNo) (o : Owner) (i : SelectNo) (p : LineProfile) (w : Nat) :
    (startTxn l o i p w s).lane m = if l = m then begun o i p w (s.lane l) else s.lane m := by
  simp [startTxn, begun]

/-! ### The arbiter takes a slot -/

theorem lane_takeSlot (l m : LaneNo) (k : SlotNo) :
    (takeSlot l k s).lane m =
      if l = m then
        begun (.slot k) (s.slot k).req.select (s.profile (s.slot k).req.profile).line
          (s.slot k).req.words.toNat { s.lane l with streak := min 4 ((s.lane l).streak + 1) }
      else s.lane m := by
  by_cases h : l = m <;> simp [takeSlot, h]

theorem slot_takeSlot (l : LaneNo) (k j : SlotNo) :
    (takeSlot l k s).slot j = if k = j then { s.slot k with state := .running } else s.slot j := by
  simp [takeSlot]

@[simp] theorem waiting_takeSlot (l : LaneNo) (k : SlotNo) :
    (takeSlot l k s).direct.waiting = s.direct.waiting.erase k := rfl

@[simp] theorem nextOrder_takeSlot (l : LaneNo) (k : SlotNo) :
    (takeSlot l k s).direct.nextOrder = s.direct.nextOrder := rfl

@[simp] theorem entry_takeSlot (l : LaneNo) (k : SlotNo) (n : EntryNo) :
    (takeSlot l k s).entry n = s.entry n := rfl

@[simp] theorem profile_takeSlot (l : LaneNo) (k : SlotNo) (p : ProfileNo) :
    (takeSlot l k s).profile p = s.profile p := rfl

/-! ### The arbiter takes an entry -/

theorem lane_takeEntry (l m : LaneNo) (n : EntryNo) (q : List EntryNo) :
    (takeEntry l n q s).lane m =
      if l = m then
        begun (.entry n) (s.entry n).cfg.select (s.profile (s.entry n).cfg.profile).line
          ((s.entry n).cfg.cmdCount.toNat + (s.entry n).cfg.respCount.toNat)
          { s.lane l with queue := q, streak := 0 }
      else s.lane m := by
  by_cases h : l = m <;> simp [takeEntry, h]

theorem entry_takeEntry (l : LaneNo) (n m : EntryNo) (q : List EntryNo) :
    (takeEntry l n q s).entry m =
      if n = m then { s.entry n with run := { (s.entry n).run with state := .active } } else s.entry m := by
  simp [takeEntry]

@[simp] theorem slot_takeEntry (l : LaneNo) (n : EntryNo) (q : List EntryNo) (k : SlotNo) :
    (takeEntry l n q s).slot k = s.slot k := rfl

@[simp] theorem profile_takeEntry (l : LaneNo) (n : EntryNo) (q : List EntryNo) (p : ProfileNo) :
    (takeEntry l n q s).profile p = s.profile p := rfl

/-! ### The submission list -/

theorem waitingSlot_some {l : LaneNo} {k : SlotNo} (h : waitingSlot l s = some k) :
    k ∈ s.direct.waiting ∧ (s.slot k).req.lane = l :=
  ⟨List.mem_of_find?_eq_some h, by simpa using List.find?_some h⟩

theorem waitingSlot_none_iff {l : LaneNo} :
    waitingSlot l s = none ↔ ∀ k ∈ s.direct.waiting, (s.slot k).req.lane ≠ l := by
  simp [waitingSlot]

/-- The oldest waiting slot that names the lane is the arbiter's (R117, R143). -/
theorem waitingSlot_oldest {l : LaneNo} {k : SlotNo} {older later : List SlotNo}
    (hw : s.direct.waiting = older ++ k :: later) (ho : ∀ j ∈ older, (s.slot j).req.lane ≠ l)
    (hk : (s.slot k).req.lane = l) : waitingSlot l s = some k := by
  have hnone : older.find? (fun j => (s.slot j).req.lane == l) = none := by simpa using ho
  simp [waitingSlot, hw, List.find?_append, hnone, hk]

/-! ### The arbiter's choice -/

/-- The arbiter of a lane that is not RUNNING and IDLE does nothing (R117). -/
theorem arbitrate_of_not_ready {l : LaneNo} (h : ¬((s.lane l).mode = .running ∧ (s.lane l).phase = .idle)) :
    arbitrate l s = s := by
  simp [arbitrate, h]

/-- With nothing waiting the arbiter does nothing (R117). -/
theorem arbitrate_of_none_waiting {l : LaneNo} (hq : (s.lane l).queue = [])
    (hw : ∀ k ∈ s.direct.waiting, (s.slot k).req.lane ≠ l) : arbitrate l s = s := by
  simp [arbitrate, hq, (waitingSlot_none_iff s).2 hw]

/-- Case 1 of R117. -/
theorem arbitrate_takes_slot {l : LaneNo} {k : SlotNo} (hm : (s.lane l).mode = .running)
    (hp : (s.lane l).phase = .idle) (hw : waitingSlot l s = some k)
    (hs : (s.lane l).streak < 4 ∨ (s.lane l).queue = []) : arbitrate l s = takeSlot l k s := by
  cases hq : (s.lane l).queue with
  | nil => simp [arbitrate, hm, hp, hw, hq]
  | cons n q =>
    have hstreak : (s.lane l).streak < 4 := by simpa [hq] using hs
    simp [arbitrate, hm, hp, hw, hq, hstreak]

/-- Case 2 of R117. -/
theorem arbitrate_takes_entry {l : LaneNo} {n : EntryNo} {q : List EntryNo} (hm : (s.lane l).mode = .running)
    (hp : (s.lane l).phase = .idle) (hq : (s.lane l).queue = n :: q)
    (hs : (s.lane l).streak = 4 ∨ ∀ k ∈ s.direct.waiting, (s.slot k).req.lane ≠ l) :
    arbitrate l s = takeEntry l n q s := by
  rcases hs with hs | hs
  · cases hw : waitingSlot l s <;> simp [arbitrate, hm, hp, hw, hq, hs]
  · simp [arbitrate, hm, hp, hq, (waitingSlot_none_iff s).2 hs]

/-! ### Delivery to a slot -/

@[simp] theorem entry_notifyDirect (b : Bool) (n : EntryNo) : (notifyDirect b s).entry n = s.entry n := by
  cases b <;> rfl
@[simp] theorem profile_notifyDirect (b : Bool) (p : ProfileNo) : (notifyDirect b s).profile p = s.profile p := by
  cases b <;> rfl
@[simp] theorem lane_notifyDirect (b : Bool) (l : LaneNo) : (notifyDirect b s).lane l = s.lane l := by
  cases b <;> rfl
@[simp] theorem slot_notifyDirect (b : Bool) (k : SlotNo) : (notifyDirect b s).slot k = s.slot k := by
  cases b <;> rfl
@[simp] theorem direct_notifyDirect (b : Bool) : (notifyDirect b s).direct = s.direct := by
  cases b <;> rfl
@[simp] theorem queue_notifyDirect (b : Bool) : (notifyDirect b s).queue = s.queue := by
  cases b <;> rfl
@[simp] theorem cmd_notifyDirect (b : Bool) : (notifyDirect b s).cmd = s.cmd := by
  cases b <;> rfl
@[simp] theorem pending_notifyDirect (b : Bool) : (notifyDirect b s).pending = s.pending := by
  cases b <;> rfl

theorem notifyDirect_eq (b : Bool) :
    notifyDirect b s = { s with irq := { s.irq with direct := s.irq.direct || b } } := by
  cases b <;> simp [notifyDirect]

/-- A RUNNING slot in the final state an outcome gives it (R149, R150). -/
def finished (o : TxnOutcome) (words : List Long) (x : Slot) : Slot :=
  { x with
    state := (slotEnd o).1, cause := (slotEnd o).2, doneCount := words.length, result := storeWords 0 words x.result }

theorem deliverSlot_running {k : SlotNo} (o : TxnOutcome) (c : List (List Bool)) (h : (s.slot k).state = .running) :
    deliverSlot k o c s =
      notifyDirect (s.slot k).req.notify
        (dropUse (s.slot k).req.profile
          (s.setSlot k
            (finished o (c.map (wordValue (s.profile (s.slot k).req.profile).line.bitOrder)) (s.slot k)))) := by
  simp only [deliverSlot, h, if_true, finished]

theorem deliverSlot_not_running {k : SlotNo} (o : TxnOutcome) (c : List (List Bool))
    (h : (s.slot k).state ≠ .running) : deliverSlot k o c s = s := by
  simp [deliverSlot, h]

end Sys2Proof.Machine
end

section
/-! SUPPORT. What a step can do, said once. The blocks that the laws of Safety.lean speak of change by elementary
events: reports, and moves of the entries, lanes and slots. A step is a sequence of them, so a law that every
elementary event keeps is kept by every step. -/

namespace Sys2Proof.Machine

/-! ### Reports -/

/-- The runtime part of an entry keeps its STATE, the counters of its dues and the range of FAIL_RUN. -/
structure Unmoved (r r' : EntryRun) : Prop where
  state : r'.state = r.state
  skips : r'.skips = r.skips
  countdown : r'.countdown = r.countdown
  failRun : r.failRun ≤ 15 → r'.failRun ≤ 15

/-- What an evaluation may change of an entry without a word to the Change Queue: its values and health, and its
pending report only by clearing it. -/
structure ValuesOnly (r r' : EntryRun) : Prop extends Unmoved r r' where
  owed : (r'.pending = r.pending ∧ r'.overwritten = r.overwritten) ∨ (r'.pending = .none ∧ r'.overwritten = false)

/-- One thing that reporting does. -/
inductive Reports : State → State → Prop where
  | values {s : State} (n : EntryNo) (f : EntryRun → EntryRun) (h : ValuesOnly (s.entry n).run (f (s.entry n).run)) :
      Reports s (s.modRun n f)
  | posts {s : State} (r : Request) : Reports s (post r s)
  | flushes {s : State} :
      Reports s
        ({ s with queue := { s.queue with records := [], held := false } }.mapRuns fun e => flushRun e.run)
  | opens {s : State} : Reports s (openHead s)
  | pops {s : State} (h : s.queue.held = true) : Reports s (drain (removeHead s))

/-! ### Moves of entries, lanes and slots -/

/-- A transaction in flight goes on: the lane keeps its mode, its lists and the owner of its transaction, and a
transaction that enters HOLD has its outcome (R121 to R125, R127). -/
structure GoesOn (L L' : Lane) : Prop where
  flying : L.inFlight = true
  goes : L'.inFlight = true
  owner : L'.txn.map Txn.owner = L.txn.map Txn.owner
  begun : L'.txn ≠ none
  ended : ∀ x, L'.txn = some x → L'.phase = .hold → x.ending ≠ none
  mode : L'.mode = L.mode
  queue : L'.queue = L.queue
  streak : L'.streak = L.streak
  minDeselect : L'.minDeselect = L.minDeselect

/-- The lane of a transaction that is over: its select released, DESELECT begun (R125). -/
def released (L : Lane) : Lane := { L with phase := .deselect, elapsed := 0, sdoRest := false }

/-- The owner of a transaction is told that it is over (R20, R12, R150), before a response is evaluated. -/
def handOver (x : Txn) (o : TxnOutcome) (s : State) : State :=
  match x.owner with
  | .entry n =>
    match (s.entry n).run.state with
    | .stopping => completeFlight (.entryStop n) .ok (reachOff n s)
    | .active => s.modRun n fun r => { r with state := .wait }
    | .off | .wait | .queued => s
  | .slot k => completeFlight (.directCancel k) (cancelResult o) (deliverSlot k o x.captured s)

/-- The command that goes in flight (R159). -/
def withFlight (f : InFlight) (s : State) : State := { s with cmd := { s.cmd with inFlight := some f } }

/-- One thing that happens while every entry, slot and waiting list keeps its place, with what must hold for it. -/
inductive Passes : State → State → Prop where
  | skipped {s : State} (n : EntryNo) :
      Passes s (s.modRun n fun r => skipDue { r with countdown := reload (s.entry n) })
  | counts {s : State} : Passes s (countEntries s)
  | clocks {s : State} : Passes s { s with lanes := mapTable clockLane s.lanes }
  | goesOn {s : State} (l : LaneNo) (f : Lane → Lane) (h : GoesOn (s.lane l) (f (s.lane l))) :
      Passes s (s.modLane l f)
  | rests {s : State} (l : LaneNo) (hp : (s.lane l).phase = .deselect) :
      Passes s (s.modLane l fun L => { L with phase := .idle, txn := none, elapsed := 0 })
  | writesEntry {s : State} (n : EntryNo) (i : Nat) (w : Word) (hs : (s.entry n).run.state = .off) :
      Passes s (s.setEntry n { s.entry n with cfg := writeEntryConfig i w (s.entry n).cfg })
  | writesProfile {s : State} (p : ProfileNo) (i : Nat) (w : Word) (hu : (s.profile p).useCount = 0) :
      Passes s (s.setProfile p (writeProfileConfig i w (s.profile p)))
  | writesLane {s : State} (l : LaneNo) (w : Word) : Passes s (s.modLane l (writeLaneConfig w))
  | writesSlot {s : State} (k : SlotNo) (i : Nat) (w : Word) (hs : (s.slot k).state = .free) :
      Passes s (s.setSlot k { s.slot k with req := writeSlotRequest i w (s.slot k).req })

/-- One move of an entry, a lane or a slot to another place, with what must hold for it. -/
inductive Moves : State → State → Prop where
  | offered {s : State} (n : EntryNo) (hw : (s.entry n).run.state = .wait)
      (hq : (s.lane (s.entry n).cfg.lane).queue.length < Config.laneQueueSize) :
      Moves s
        ((s.modRun n fun r => { r with countdown := reload (s.entry n), state := .queued }).modLane
          (s.entry n).cfg.lane fun L => { L with queue := L.queue ++ [n] })
  | takesSlot {s : State} (l : LaneNo) (k : SlotNo) (hm : (s.lane l).mode = .running)
      (hp : (s.lane l).phase = .idle) (hw : waitingSlot l s = some k) : Moves s (takeSlot l k s)
  | takesEntry {s : State} (l : LaneNo) (n : EntryNo) (q : List EntryNo) (hm : (s.lane l).mode = .running)
      (hp : (s.lane l).phase = .idle) (hq : (s.lane l).queue = n :: q) : Moves s (takeEntry l n q s)
  | stopsScan {s : State} :
      Moves s
        ({ s with lanes := mapTable (fun L => { L with queue := [] }) s.lanes }.mapRuns fun e => unqueue e.run)
  | enables {s : State} (n : EntryNo) (hs : (s.entry n).run.state = .off)
      (hv : (s.entry n).cfg.valid (s.profile (s.entry n).cfg.profile) = true) :
      Moves s (raiseUse (s.entry n).cfg.profile (s.modRun n fun _ => enabledRun (s.entry n).cfg))
  | stopsWaiting {s : State} (n : EntryNo) (hs : (s.entry n).run.state = .wait) : Moves s (reachOff n s)
  | stopsQueued {s : State} (n : EntryNo) (hs : (s.entry n).run.state = .queued) :
      Moves s (reachOff n (s.modLane (s.entry n).cfg.lane fun L => { L with queue := L.queue.erase n }))
  | stopsActive {s : State} (n : EntryNo) (hs : (s.entry n).run.state = .active) (hf : s.cmd.inFlight = none) :
      Moves s (withFlight (.entryStop n) (s.modRun n fun r => { r with state := .stopping }))
  | holds {s : State} (l : LaneNo) (hm : (s.lane l).mode = .running) (hp : (s.lane l).phase = .idle) :
      Moves s (s.modLane l fun L => { L with mode := .held })
  | holdsLater {s : State} (l : LaneNo) (hm : (s.lane l).mode = .running) (hf : s.cmd.inFlight = none) :
      Moves s (withFlight (.laneHold l) (s.modLane l fun L => { L with mode := .holdPending }))
  | releases {s : State} (l : LaneNo) (hm : (s.lane l).mode = .held) :
      Moves s (s.modLane l fun L => { L with mode := .running })
  | holdsAtLast {s : State} (l : LaneNo) (hm : (s.lane l).mode = .holdPending) (hp : (s.lane l).phase = .idle) :
      Moves s (completeFlight (.laneHold l) .ok (s.modLane l fun L => { L with mode := .held }))
  | clears {s : State} (l : LaneNo) (hi : ∀ x, (s.lane l).txn = some x → (s.lane l).inFlight = false)
      (hf : s.cmd.inFlight = none) :
      Moves s ((s.modLane l clearLane).mapRuns fun e => if e.cfg.lane = l then unqueue e.run else e.run)
  | submits {s : State} (k : SlotNo) (hs : (s.slot k).state = .free)
      (hv : (s.profile (s.slot k).req.profile).valid = true) : Moves s (submitSlot k s)
  | withdraws {s : State} (k : SlotNo) (hs : (s.slot k).state = .queued) : Moves s (cancelQueued k s)
  | cancelsRunning {s : State} (k : SlotNo) (hs : (s.slot k).state = .running) (hf : s.cmd.inFlight = none) :
      Moves s (withFlight (.directCancel k) s)
  | frees {s : State} (k : SlotNo)
      (hs : (s.slot k).state = .done ∨ (s.slot k).state = .failed ∨ (s.slot k).state = .cancelled) :
      Moves s (s.setSlot k { s.slot k with state := .free })
  | finishes {s : State} (l : LaneNo) (x : Txn) (o : TxnOutcome) (ht : (s.lane l).txn = some x)
      (hi : (s.lane l).inFlight = true) : Moves s (handOver x o (s.modLane l released))

/-! ### Events and sequences of them -/

/-- The blocks the laws speak of are alike, and so are the commands that wait. -/
structure SameBlocks (s t : State) : Prop where
  entries : t.entries = s.entries
  profiles : t.profiles = s.profiles
  lanes : t.lanes = s.lanes
  direct : t.direct = s.direct
  records : t.queue.records = s.queue.records
  held : t.queue.held = s.queue.held
  nextSeq : t.queue.nextSeq = s.queue.nextSeq
  inFlight : t.cmd.inFlight = s.cmd.inFlight
  pending : t.pending = s.pending

/-- One elementary event. -/
inductive Event : State → State → Prop where
  | other {s t : State} (h : SameBlocks s t) : Event s t
  | reports {s t : State} (h : Reports s t) : Event s t
  | passes {s t : State} (h : Passes s t) : Event s t
  | moves {s t : State} (h : Moves s t) : Event s t
  | powersOn {s : State} : Event s { State.powerOn with pending := s.pending, freeCount := s.freeCount }
  | softResets {s : State} (arg : Byte) : Event s (softReset arg s)

/-- A sequence of elementary events. -/
inductive Events : State → State → Prop where
  | refl {s : State} : Events s s
  | cons {s t u : State} (h : Event s t) (hs : Events t u) : Events s u

variable {s t u : State}

theorem Events.single (h : Event s t) : Events s t := .cons h .refl

theorem Events.trans (h : Events s t) (h' : Events t u) : Events s u := by
  induction h with
  | refl => exact h'
  | cons h _ ih => exact .cons h (ih h')

theorem Events.reports (h : Reports s t) : Events s t := .single (.reports h)

theorem Events.passes (h : Passes s t) : Events s t := .single (.passes h)

theorem Events.moves (h : Moves s t) : Events s t := .single (.moves h)

/-- The induction over a sequence of events, once for every law. -/
theorem Events.keep {P : State → Prop} (hP : ∀ {s t}, Event s t → P s → P t) (h : Events s t) (hs : P s) : P t := by
  induction h with
  | refl => exact hs
  | cons hfirst _ ih => exact ih (hP hfirst hs)

theorem events_foldl {α : Type} {f : State → α → State} (hf : ∀ s a, Events s (f s a)) (as : List α) (s : State) :
    Events s (as.foldl f s) := by
  induction as generalizing s with
  | nil => exact .refl
  | cons a as ih => exact (hf s a).trans (ih (f s a))

/-! ### Blocks of which no law speaks -/

theorem events_sched (x : Scheduler) : Events s { s with sched := x } :=
  .single (.other ⟨rfl, rfl, rfl, rfl, rfl, rfl, rfl, rfl, rfl⟩)

theorem events_port (x : HostPort) : Events s { s with port := x } :=
  .single (.other ⟨rfl, rfl, rfl, rfl, rfl, rfl, rfl, rfl, rfl⟩)

theorem events_irq (x : InterruptUnit) : Events s { s with irq := x } :=
  .single (.other ⟨rfl, rfl, rfl, rfl, rfl, rfl, rfl, rfl, rfl⟩)

theorem events_cmd {x : CommandUnit} (h : x.inFlight = s.cmd.inFlight) : Events s { s with cmd := x } :=
  .single (.other ⟨rfl, rfl, rfl, rfl, rfl, rfl, rfl, h, rfl⟩)

/-! ### Posting, evaluation and delivery -/

theorem ValuesOnly.of_values {r r' : EntryRun} (hs : r'.state = r.state) (hk : r'.skips = r.skips)
    (hc : r'.countdown = r.countdown) (hf : r.failRun ≤ 15 → r'.failRun ≤ 15) (hp : r'.pending = r.pending)
    (ho : r'.overwritten = r.overwritten) : ValuesOnly r r' :=
  ⟨⟨hs, hk, hc, hf⟩, .inl ⟨hp, ho⟩⟩

theorem events_values {n : EntryNo} {f : EntryRun → EntryRun} (h : ∀ r, ValuesOnly r (f r)) :
    Events s (s.modRun n f) :=
  .reports (.values n f (h _))

theorem events_values_post {n : EntryNo} {f : EntryRun → EntryRun} {r : Request} (h : ∀ r, ValuesOnly r (f r)) :
    Events s (post r (s.modRun n f)) :=
  (events_values h).trans (.reports (.posts r))

theorem prime_events (n : EntryNo) (x : Long) (s : State) : Events s (prime n x s) := by
  unfold prime
  dsimp only
  split
  · exact events_values_post fun _ => .of_values rfl rfl rfl id rfl rfl
  · exact events_values fun _ => .of_values rfl rfl rfl id rfl rfl

theorem judge_events (n : EntryNo) (x : Long) (s : State) : Events s (judge n x s) := by
  unfold judge
  dsimp only
  split
  · exact events_values_post fun _ => .of_values rfl rfl rfl id rfl rfl
  · exact events_values fun _ => .of_values rfl rfl rfl id rfl rfl

theorem recover_events (n : EntryNo) (x : Long) (s : State) : Events s (recover n x s) := by
  unfold recover
  dsimp only
  refine .trans ?_ (events_values fun _ => .of_values rfl rfl rfl id rfl rfl)
  exact events_values_post fun _ => .of_values rfl rfl rfl (fun _ => Nat.zero_le _) rfl rfl

theorem goodResponse_events (n : EntryNo) (x : Long) (s : State) : Events s (goodResponse n x s) := by
  unfold goodResponse
  split
  · exact recover_events n x s
  all_goals
    dsimp only
    split
    · refine .trans ?_ (judge_events n x _)
      exact events_values fun _ => .of_values rfl rfl rfl (fun _ => Nat.zero_le _) rfl rfl
    · refine .trans ?_ (prime_events n x _)
      exact events_values fun _ => .of_values rfl rfl rfl (fun _ => Nat.zero_le _) rfl rfl

theorem countFailure_valuesOnly (c : FailCause) (r : EntryRun) : ValuesOnly r (countFailure c r) :=
  .of_values rfl rfl rfl (fun _ => Nat.min_le_left ..) rfl rfl

theorem failure_events (n : EntryNo) (c : FailCause) (s : State) : Events s (failure n c s) := by
  have hcount : Events s (s.modRun n (countFailure c)) := events_values (countFailure_valuesOnly c)
  unfold failure
  dsimp only
  split
  · exact hcount
  all_goals
    split
    · exact hcount.trans (events_values fun _ => .of_values rfl rfl rfl id rfl rfl)
    · exact hcount.trans (events_values_post fun _ => .of_values rfl rfl rfl id rfl rfl)

theorem evaluate_events (n : EntryNo) (c : List (List Bool)) (s : State) : Events s (evaluate n c s) := by
  unfold evaluate
  dsimp only
  split
  · exact goodResponse_events n _ s
  · exact failure_events n _ s

/-- A delivery tells the owner that the transaction is over, and then evaluates a response or a failure. -/
theorem deliver_events (x : Txn) (o : TxnOutcome) (s : State) : Events (handOver x o s) (deliver x o s) := by
  unfold handOver deliver
  cases x.owner with
  | slot k => exact .refl
  | entry n =>
    dsimp only
    unfold deliverEntry
    cases (s.entry n).run.state with
    | active =>
      cases o with
      | sample => exact evaluate_events n _ _
      | fail => exact failure_events n _ _
      | cut => exact .refl
      | aborted => exact .refl
    | _ => exact .refl

/-! ### The tick in progress -/

theorem handleDue_events (n : EntryNo) (s : State) : Events s (handleDue n s) := by
  rcases handleDue_cases n s with ⟨_, h⟩ | ⟨hw, hq, h⟩ | ⟨_, h⟩
  · rw [h]; exact .refl
  · rw [h]; exact .moves (.offered n hw hq)
  · rw [h]; exact .passes (.skipped n)

theorem arbitrate_events (l : LaneNo) (s : State) : Events s (arbitrate l s) := by
  rcases arbitrate_cases l s with h | ⟨hm, hp, ⟨k, hk, _, h⟩ | ⟨n, q, hq, h⟩⟩
  · rw [h]; exact .refl
  · rw [h]; exact .moves (.takesSlot l k hm hp hk)
  · rw [h]; exact .moves (.takesEntry l n q hm hp hq)

theorem wakeArbiters_events (s : State) : Events s (wakeArbiters s) :=
  events_foldl (fun s l => arbitrate_events l s) _ s

theorem settleDues_events (s : State) : Events s (settleDues s) := by
  unfold settleDues
  split
  · exact .refl
  · exact (events_sched _).trans ((events_foldl (fun s n => handleDue_events n s) _ _).trans (wakeArbiters_events _))

theorem beginTick_events (s : State) : Events s (beginTick s) := by
  have hadvance : Events s (advanceTime s) := events_sched _
  unfold beginTick
  dsimp only
  split
  · exact hadvance.trans ((Events.passes .counts).trans (events_sched _))
  · exact hadvance

theorem clockPeriod_events (s : State) : Events s (clockPeriod s) := by
  unfold clockPeriod
  split
  · exact .refl
  · exact (settleDues_events s).trans ((Events.passes .clocks).trans (events_sched _))

/-! ### The frames of a command -/

theorem hostWrite_events {f : State → Outcome} (hf : ∀ u t, f u = .next t → Events u t)
    (h : hostWrite f s = .next t) : Events s t := by
  rcases hostWrite_next h with ⟨_, rfl⟩ | ⟨_, e⟩
  · exact .refl
  · exact (settleDues_events s).trans ((events_port _).trans (hf _ _ e))

theorem hostRead_events {value : State → Word} {f : State → State} (hf : ∀ u, Events u (f u))
    (h : hostRead value f s = .next t) : Events s t := by
  rcases hostRead_next h with ⟨_, rfl⟩ | ⟨_, rfl⟩
  · exact .refl
  · exact (settleDues_events s).trans ((hf _).trans (events_port _))

theorem accessError_events (c : ErrCode) (o : Byte) (s : State) : Events s (accessError c o s) := events_irq _

/-- What an owner's answer does to the state it was asked in (R157, R159). -/
def AnswerEvents (u : State) : CmdAnswer → Prop
  | .completed v => Events u v
  | .inFlight f v => Events u (withFlight f v)
  | .refused _ | .ruledOut => True

/-- A command word: the owner answers, and the command unit takes down the answer. -/
theorem hostCommand_events {code arg : Byte} {owner : State → CmdAnswer}
    (ho : ∀ u, u.cmd.inFlight = none → AnswerEvents u (owner u))
    (h : hostCommand code arg owner s = .next t) : Events s t := by
  refine hostWrite_events (fun u t hu => ?_) h
  rcases takeCommand_next hu with ⟨_, rfl⟩ | ⟨hnone, ⟨v, hv, rfl⟩ | ⟨r, _, rfl⟩ | ⟨f, v, hv, rfl⟩⟩
  · exact accessError_events _ _ u
  · have hanswer := ho u hnone
    rw [hv] at hanswer
    exact Events.trans hanswer (events_cmd rfl)
  · exact events_cmd rfl
  · have hanswer := ho u hnone
    rw [hv] at hanswer
    exact Events.trans hanswer (events_cmd (s := withFlight f v) rfl)

theorem laneEvent_events {l : LaneNo} {p : Phase} {f : Txn → State → Outcome}
    (hf : ∀ x u t, (u.lane l).txn = some x → (u.lane l).phase = p → f x u = .next t → Events u t)
    (h : laneEvent l p f s = .next t) : Events s t := by
  obtain ⟨_, x, hx, hp, e⟩ := laneEvent_next h
  exact (settleDues_events s).trans (hf x _ t hx hp e)

/-! ### The owners of the entry commands -/

theorem entryEnableOwner_events (a : Byte) (u : State) : AnswerEvents u (entryEnableOwner a u) := by
  unfold entryEnableOwner
  split
  · trivial
  · next n _ =>
    dsimp only
    split
    · trivial
    · next hs =>
      split
      · next hv => exact Events.moves (.enables n (not_not.1 hs) hv)
      · trivial

theorem entryStopOwner_events (a : Byte) (u : State) (hf : u.cmd.inFlight = none) :
    AnswerEvents u (entryStopOwner a u) := by
  unfold entryStopOwner
  split
  · trivial
  · next n _ =>
    dsimp only
    split
    · exact Events.refl
    · next hs => exact Events.moves (.stopsWaiting n hs)
    · next hs => exact Events.moves (.stopsQueued n hs)
    · next hs => exact Events.moves (.stopsActive n hs hf)
    · trivial

theorem rearm_valuesOnly (r : EntryRun) : ValuesOnly r (rearm r) := by
  unfold rearm
  split
  · exact ⟨⟨rfl, rfl, rfl, fun _ => Nat.zero_le _⟩, .inr ⟨rfl, rfl⟩⟩
  all_goals exact .of_values rfl rfl rfl (fun _ => Nat.zero_le _) rfl rfl

theorem entryRearmOwner_events (a : Byte) (u : State) : AnswerEvents u (entryRearmOwner a u) := by
  unfold entryRearmOwner
  split
  · trivial
  · dsimp only
    split
    · trivial
    · split
      · trivial
      · exact events_values rearm_valuesOnly

/-! ### The owners of the lane commands -/

theorem laneHoldOwner_events (a : Byte) (u : State) (hf : u.cmd.inFlight = none) :
    AnswerEvents u (laneHoldOwner a u) := by
  unfold laneHoldOwner
  split
  · trivial
  · next l _ =>
    split
    · trivial
    · trivial
    · next hm =>
      split
      · next hp => exact Events.moves (.holds l hm hp)
      · exact Events.moves (.holdsLater l hm hf)

theorem laneReleaseOwner_events (a : Byte) (u : State) : AnswerEvents u (laneReleaseOwner a u) := by
  unfold laneReleaseOwner
  split
  · trivial
  · next l _ =>
    split
    · trivial
    · trivial
    · next hm => exact (Events.moves (.releases l hm)).trans (arbitrate_events l _)

/-! ### The owners of the slot commands -/

theorem directSubmitOwner_events (a : Byte) (u : State) : AnswerEvents u (directSubmitOwner a u) := by
  unfold directSubmitOwner
  split
  · trivial
  · next k _ =>
    dsimp only
    split
    · trivial
    · next hs =>
      split
      · next hv => exact (Events.moves (.submits k (not_not.1 hs) hv.2)).trans (arbitrate_events _ _)
      · trivial

theorem directReleaseOwner_events (a : Byte) (u : State) : AnswerEvents u (directReleaseOwner a u) := by
  unfold directReleaseOwner
  split
  · trivial
  · next k _ =>
    split
    · next hs => exact Events.moves (.frees k (.inl hs))
    · next hs => exact Events.moves (.frees k (.inr (.inl hs)))
    · next hs => exact Events.moves (.frees k (.inr (.inr hs)))
    all_goals trivial

/-! ### The owners of the scheduler's and the queue's commands -/

theorem startScanOwner_events (u : State) : AnswerEvents u (startScanOwner u) := by
  unfold startScanOwner
  split
  · trivial
  · exact events_sched _

theorem stopScanOwner_events (u : State) : AnswerEvents u (stopScanOwner u) := by
  unfold stopScanOwner
  split
  · exact (events_sched { u.sched with running := false }).trans (.moves .stopsScan)
  · trivial

theorem queueFlushOwner_events (u : State) : AnswerEvents u (queueFlushOwner u) := Events.reports .flushes

end Sys2Proof.Machine
end

section
/-! SUPPORT. What a step can do, continued: LANE_RESET as the end of a transaction and the clearing of its lane. -/

namespace Sys2Proof.Machine

variable {s t u : State}

/-! ### LANE_RESET -/

/-- The entries of a lane that is reset leave its queue (R13, R129). -/
def unqueuedOn (l : LaneNo) (e : Entry) : EntryRun := if e.cfg.lane = l then unqueue e.run else e.run

@[simp] theorem inFlight_released (L : Lane) : (released L).inFlight = false := rfl

theorem modLane_modLane (l : LaneNo) (f g : Lane → Lane) (s : State) :
    (s.modLane l f).modLane l g = s.modLane l fun L => g (f L) := by
  simp [State.modLane, State.setLane, State.lane]

/-- A change of one runtime part commutes with one of all of them where it does so on that part. -/
theorem mapRuns_modRun {n : EntryNo} {f : EntryRun → EntryRun} {g : Entry → EntryRun}
    (h : f (g (s.entry n)) = g { s.entry n with run := f (s.entry n).run }) :
    (s.mapRuns g).modRun n f = (s.modRun n f).mapRuns g := by
  have he : ((s.mapRuns g).modRun n f).entries = ((s.modRun n f).mapRuns g).entries := by
    refine entries_ext fun m => ?_
    by_cases hm : n = m <;> simp [hm]
    subst hm
    simpa using h
  exact congrArg (fun v => { s with entries := v }) he

/-- An entry that does not wait in a queue is not concerned. -/
theorem unqueuedOn_of_ne {l : LaneNo} {e : Entry} (h : e.run.state ≠ .queued) : unqueuedOn l e = e.run := by
  simp [unqueuedOn, unqueue, h]

theorem completeFlight_modLane (f : InFlight) (r : CmdResult) (l : LaneNo) (g : Lane → Lane) (s : State) :
    completeFlight f r (s.modLane l g) = (completeFlight f r s).modLane l g := by
  by_cases h : s.cmd.inFlight = some f
  · simp only [completeFlight, h, modLane_cmd, if_true]; rfl
  · simp only [completeFlight, h, modLane_cmd, if_false]

theorem completeFlight_mapRuns (f : InFlight) (r : CmdResult) (g : Entry → EntryRun) (s : State) :
    completeFlight f r (s.mapRuns g) = (completeFlight f r s).mapRuns g := by
  by_cases h : s.cmd.inFlight = some f
  · simp only [completeFlight, h, mapRuns_cmd, if_true]; rfl
  · simp only [completeFlight, h, mapRuns_cmd, if_false]

theorem deliverSlot_modLane (k : SlotNo) (o : TxnOutcome) (c : List (List Bool)) (l : LaneNo) (g : Lane → Lane)
    (s : State) : deliverSlot k o c (s.modLane l g) = (deliverSlot k o c s).modLane l g := by
  by_cases h : (s.slot k).state = .running
  · rw [deliverSlot_running _ _ _ h, deliverSlot_running _ _ _ (by exact h)]
    simp only [notifyDirect_eq]
    rfl
  · rw [deliverSlot_not_running _ _ _ h, deliverSlot_not_running _ _ _ (by exact h)]

theorem deliverSlot_mapRuns (k : SlotNo) (o : TxnOutcome) (c : List (List Bool)) (g : Entry → EntryRun)
    (s : State) : deliverSlot k o c (s.mapRuns g) = (deliverSlot k o c s).mapRuns g := by
  by_cases h : (s.slot k).state = .running
  · rw [deliverSlot_running _ _ _ h, deliverSlot_running _ _ _ (by exact h)]
    simp only [notifyDirect_eq]
    rfl
  · rw [deliverSlot_not_running _ _ _ h, deliverSlot_not_running _ _ _ (by exact h)]

/-- The owner is told the same whatever the lane holds by then. -/
theorem handOver_modLane (x : Txn) (o : TxnOutcome) (l : LaneNo) (g : Lane → Lane) (s : State) :
    handOver x o (s.modLane l g) = (handOver x o s).modLane l g := by
  unfold handOver
  cases x.owner with
  | slot k => dsimp only; rw [deliverSlot_modLane, completeFlight_modLane]
  | entry n =>
    simp only [entry_modLane_other]
    cases (s.entry n).run.state with
    | stopping => exact completeFlight_modLane (.entryStop n) .ok l g (reachOff n s)
    | _ => rfl

/-- The entry that owns a transaction does not wait in a queue, so the two do not meet (R9). -/
theorem handOver_unqueuedOn (x : Txn) (o : TxnOutcome) (l : LaneNo) (s : State) :
    handOver x o (s.mapRuns (unqueuedOn l)) = (handOver x o s).mapRuns (unqueuedOn l) := by
  unfold handOver
  cases x.owner with
  | slot k => dsimp only; rw [deliverSlot_mapRuns, completeFlight_mapRuns]
  | entry n =>
    simp only [entry_mapRuns]
    by_cases hq : (s.entry n).run.state = .queued
    · by_cases hl : (s.entry n).cfg.lane = l <;> simp [unqueuedOn, unqueue, hq, hl]
    · rw [unqueuedOn_of_ne hq]
      cases hs : (s.entry n).run.state with
      | queued => exact absurd hs hq
      | off => rfl
      | wait => rfl
      | active =>
        refine mapRuns_modRun ?_
        rw [unqueuedOn_of_ne hq, unqueuedOn_of_ne (by simp)]
      | stopping =>
        have hoff : reachOff n (s.mapRuns (unqueuedOn l)) = (reachOff n s).mapRuns (unqueuedOn l) := by
          refine congrArg (dropUse _) ((mapRuns_modRun ?_).trans rfl) |>.trans ?_
          · rw [unqueuedOn_of_ne hq, unqueuedOn_of_ne (by simp)]
          · simp [reachOff]; rfl
        dsimp only
        rw [hoff, completeFlight_mapRuns]

@[simp] theorem cmd_deliverSlot (k : SlotNo) (o : TxnOutcome) (c : List (List Bool)) (s : State) :
    (deliverSlot k o c s).cmd = s.cmd := by
  rw [deliverSlot_frame]

/-- With no command in flight the end of a transaction completes none. -/
theorem handOver_inFlight_none {x : Txn} {o : TxnOutcome} (h : s.cmd.inFlight = none) :
    (handOver x o s).cmd.inFlight = none := by
  unfold handOver
  cases x.owner with
  | slot k => simp [h]
  | entry n =>
    dsimp only
    cases (s.entry n).run.state with
    | stopping => simp [h]
    | _ => exact h

theorem deliverAborted_flying {L : Lane} {x : Txn} (ht : L.txn = some x) (hi : L.inFlight = true)
    (hf : s.cmd.inFlight = none) : deliverAborted L s = handOver x .aborted s := by
  rw [deliverAborted, if_pos hi, ht]
  dsimp only
  unfold handOver
  cases x.owner with
  | entry n => rfl
  | slot k =>
    exact (completeFlight_of_ne (by simp [hf])).symm

theorem deliverAborted_still {L : Lane} (h : ∀ x, L.txn = some x → L.inFlight = false) : deliverAborted L s = s := by
  unfold deliverAborted
  split
  · next hi =>
    split
    · next x hx => simp [h x hx] at hi
    · rfl
  · rfl

/-- LANE_RESET aborts the transaction and then clears the lane (R129). -/
theorem resetLane_events {l : LaneNo} (hf : s.cmd.inFlight = none) : Events s (resetLane l s) := by
  have hreset : resetLane l s =
      deliverAborted (s.lane l) ((s.modLane l clearLane).mapRuns (unqueuedOn l)) := rfl
  by_cases hstill : ∀ x, (s.lane l).txn = some x → (s.lane l).inFlight = false
  · rw [hreset, deliverAborted_still hstill]
    exact .moves (.clears l hstill hf)
  · push Not at hstill
    obtain ⟨x, ht, hi⟩ := hstill
    rw [ne_eq, Bool.not_eq_false] at hi
    rw [hreset, deliverAborted_flying ht hi (by exact hf), handOver_unqueuedOn, handOver_modLane]
    have hclear : (handOver x .aborted s).modLane l clearLane =
        (handOver x .aborted (s.modLane l released)).modLane l clearLane := by
      rw [handOver_modLane, modLane_modLane]; rfl
    rw [hclear]
    refine (Events.moves (.finishes l x .aborted ht hi)).trans (.moves (.clears l (fun _ _ => ?_) ?_))
    · simp [handOver_modLane]
    · exact handOver_inFlight_none (by exact hf)

theorem laneResetOwner_events (a : Byte) (u : State) (hf : u.cmd.inFlight = none) :
    AnswerEvents u (laneResetOwner a u) := by
  unfold laneResetOwner
  split
  · trivial
  · exact resetLane_events hf

end Sys2Proof.Machine
end

section
/-! SUPPORT. What a step can do, continued: the events of a lane, the host port, and every command as a sequence of
elementary events. -/

namespace Sys2Proof.Machine

variable {s t u : State}

/-! ### A transaction goes on -/

theorem inFlight_of_phase {L : Lane} (h : L.phase ≠ .idle) (h' : L.phase ≠ .deselect) : L.inFlight = true := by
  unfold Lane.inFlight
  cases hp : L.phase <;> simp_all

theorem beforeWord_cases (x : Txn) (rdy : Bool) : beforeWord x rdy = .readyWait ∨ beforeWord x rdy = .shift := by
  unfold beforeWord
  split
  · exact .inl rfl
  · exact .inr rfl

/-- The shape of every event inside a transaction: a new phase that is not HOLD, the same owner. -/
theorem GoesOn.of_phase {L : Lane} {x y : Txn} {p : Phase} {e : Nat} {b : Bool} (ht : L.txn = some x)
    (hi : L.inFlight = true) (hp : p = .readyWait ∨ p = .shift ∨ p = .gap) (ho : y.owner = x.owner) :
    GoesOn L { L with phase := p, elapsed := e, txn := some y, sdoRest := b } where
  flying := hi
  goes := by rcases hp with rfl | rfl | rfl <;> rfl
  owner := by simp [ht, ho]
  begun := by simp
  ended := by
    intro z _ hz
    rcases hp with rfl | rfl | rfl <;> cases hz
  mode := rfl
  queue := rfl
  streak := rfl
  minDeselect := rfl

/-- A transaction that goes to HOLD has its outcome (R125). -/
theorem GoesOn.toHold {L : Lane} {x y : Txn} {e : Ending} {b : Bool} (ht : L.txn = some x)
    (hi : L.inFlight = true) (ho : y.owner = x.owner) :
    GoesOn L { toHold e y L with sdoRest := b } where
  flying := hi
  goes := rfl
  owner := by simp [Machine.toHold, ht, ho]
  begun := by simp [Machine.toHold]
  ended := by
    intro z hz _
    have : { y with ending := some e } = z := by simpa [Machine.toHold] using hz
    simp [← this]
  mode := rfl
  queue := rfl
  streak := rfl
  minDeselect := rfl

theorem events_goesOn {l : LaneNo} {f : Lane → Lane} (h : GoesOn (s.lane l) (f (s.lane l))) :
    Events s (s.modLane l f) :=
  .passes (.goesOn l f h)

/-- A cancel leaves the lane as it is or lets its transaction go on (R127). -/
theorem cancelLane_cases (L : Lane) : cancelLane L = L ∨ GoesOn L (cancelLane L) := by
  cases ht : L.txn with
  | none => left; simp only [cancelLane, ht]
  | some x =>
    cases hp : L.phase with
    | idle => left; simp only [cancelLane, ht, hp]
    | hold => left; simp only [cancelLane, ht, hp]
    | deselect => left; simp only [cancelLane, ht, hp]
    | setup =>
      right
      simp only [cancelLane, ht, hp]
      exact .toHold ht (inFlight_of_phase (by simp [hp]) (by simp [hp])) rfl
    | readyWait =>
      right
      simp only [cancelLane, ht, hp]
      exact .toHold ht (inFlight_of_phase (by simp [hp]) (by simp [hp])) rfl
    | gap =>
      right
      simp only [cancelLane, ht, hp]
      exact .toHold ht (inFlight_of_phase (by simp [hp]) (by simp [hp])) rfl
    | shift =>
      right
      simp only [cancelLane, ht, hp]
      exact .of_phase ht (inFlight_of_phase (by simp [hp]) (by simp [hp])) (.inr (.inl rfl)) rfl

theorem cancelLane_events (l : LaneNo) (s : State) : Events s (s.modLane l cancelLane) := by
  rcases cancelLane_cases (s.lane l) with h | h
  · have : s.modLane l cancelLane = s := by rw [State.modLane, h, setLane_lane]
    rw [this]
    exact .refl
  · exact events_goesOn h

theorem directCancelOwner_events (a : Byte) (u : State) (hf : u.cmd.inFlight = none) :
    AnswerEvents u (directCancelOwner a u) := by
  unfold directCancelOwner
  split
  · trivial
  · next k _ =>
    split
    · next hs => exact Events.moves (.withdraws k hs)
    · next hs =>
      exact (Events.moves (.cancelsRunning k hs hf)).trans (cancelLane_events _ (withFlight (.directCancel k) u))
    all_goals trivial

/-! ### The events of a lane -/

theorem execSetupEnd_events {l : LaneNo} {rdy : Bool} (h : execSetupEnd l rdy s = .next t) : Events s t := by
  refine laneEvent_events (fun x u t hx hp e => ?_) h
  cases e
  have hi : (u.lane l).inFlight = true := inFlight_of_phase (by simp [hp]) (by simp [hp])
  refine events_goesOn ?_
  have hb : beforeWord x rdy = .readyWait ∨ beforeWord x rdy = .shift ∨ beforeWord x rdy = .gap :=
    (beforeWord_cases x rdy).imp_right .inl
  have h := GoesOn.of_phase (y := x) (e := 0) (b := (u.lane l).sdoRest) hx hi hb rfl
  rw [← hx] at h
  exact h

theorem execReadyObserved_events {l : LaneNo} {k : Nat} (h : execReadyObserved l k s = .next t) : Events s t := by
  refine laneEvent_events (fun x u t hx hp e => ?_) h
  have hi : (u.lane l).inFlight = true := inFlight_of_phase (by simp [hp]) (by simp [hp])
  split at e
  · cases e
    exact events_goesOn (.of_phase hx hi (.inr (.inl rfl)) rfl)
  · cases e

theorem execReadyTimeout_events {l : LaneNo} (h : execReadyTimeout l s = .next t) : Events s t := by
  refine laneEvent_events (fun x u t hx hp e => ?_) h
  cases e
  exact events_goesOn (.toHold hx (inFlight_of_phase (by simp [hp]) (by simp [hp])) rfl)

theorem afterWord_goesOn {L : Lane} {x y : Txn} {rdy b : Bool} (ht : L.txn = some x) (hi : L.inFlight = true)
    (ho : y.owner = x.owner) : GoesOn L { afterWord y rdy L with sdoRest := b } := by
  unfold afterWord
  split
  · exact .toHold ht hi ho
  · split
    · exact .toHold ht hi ho
    · refine .of_phase ht hi ?_ ho
      split
      · exact .inr (.inr rfl)
      · exact (beforeWord_cases y rdy).imp_right .inl

theorem execWordEnd_events {l : LaneNo} {bits : List Bool} {rdy : Bool} (h : execWordEnd l bits rdy s = .next t) :
    Events s t := by
  refine laneEvent_events (fun x u t hx hp e => ?_) h
  split at e
  · cases e
    exact events_goesOn (afterWord_goesOn hx (inFlight_of_phase (by simp [hp]) (by simp [hp])) rfl)
  · cases e

theorem execGapEnd_events {l : LaneNo} {rdy : Bool} (h : execGapEnd l rdy s = .next t) : Events s t := by
  refine laneEvent_events (fun x u t hx hp e => ?_) h
  cases e
  refine events_goesOn (.of_phase hx (inFlight_of_phase (by simp [hp]) (by simp [hp])) ?_ rfl)
  exact (beforeWord_cases x rdy).imp_right .inl

theorem execHoldEnd_events {l : LaneNo} (h : execHoldEnd l s = .next t) : Events s t := by
  refine laneEvent_events (fun x u t hx hp e => ?_) h
  split at e
  · cases e
  · next o _ =>
    cases e
    have hi : (u.lane l).inFlight = true := inFlight_of_phase (by simp [hp]) (by simp [hp])
    exact (Events.moves (.finishes l x o.outcome hx hi)).trans (deliver_events x _ _)

theorem execDeselectEnd_events {l : LaneNo} (h : execDeselectEnd l s = .next t) : Events s t := by
  refine laneEvent_events (fun x u t _ hp e => ?_) h
  have hrest := Events.passes (Passes.rests l hp)
  dsimp only at e
  split at e
  · cases e; exact hrest.trans (arbitrate_events l _)
  · next hm => cases e; exact hrest.trans (.moves (.holdsAtLast l hm (by simp)))
  · cases e; exact hrest

/-! ### The table window -/

theorem events_window (x : HostPort) (k : Nat) : Events s { s with port := x, freeCount := k } :=
  .single (.other ⟨rfl, rfl, rfl, rfl, rfl, rfl, rfl, rfl, rfl⟩)

theorem advanceOffset_events (s : State) : Events s (advanceOffset s) := events_port _

theorem latchSnapshot_events (s : State) : Events s (latchSnapshot s) := by
  unfold latchSnapshot
  split
  · split
    · exact events_port _
    · exact .refl
  · split
    · exact events_window _ _
    · exact .refl
  · exact .refl
  · exact .refl

theorem writeEntryWord_events (n : EntryNo) (i : Nat) (w : Word) (s : State) :
    Events s (writeEntryWord n i w s) := by
  unfold writeEntryWord
  split
  · exact .refl
  · exact accessError_events _ _ s
  · split
    · next hs => exact .passes (.writesEntry n i w hs)
    · exact accessError_events _ _ s

theorem writeProfileWord_events (p : ProfileNo) (i : Nat) (w : Word) (s : State) :
    Events s (writeProfileWord p i w s) := by
  unfold writeProfileWord
  split
  · exact .refl
  · exact accessError_events _ _ s
  · split
    · next hu => exact .passes (.writesProfile p i w hu)
    · exact accessError_events _ _ s

theorem writeLaneWord_events (l : LaneNo) (i : Nat) (w : Word) (s : State) : Events s (writeLaneWord l i w s) := by
  unfold writeLaneWord
  split
  · exact .refl
  · exact accessError_events _ _ s
  · split
    · exact .passes (.writesLane l w)
    · exact accessError_events _ _ s

theorem writeSlotWord_events (k : SlotNo) (i : Nat) (w : Word) (s : State) : Events s (writeSlotWord k i w s) := by
  unfold writeSlotWord
  split
  · exact .refl
  · exact accessError_events _ _ s
  · split
    · next hs => exact .passes (.writesSlot k i w hs)
    · exact accessError_events _ _ s

theorem writeTableWord_events (w : Word) (s : State) : Events s (writeTableWord w s) := by
  unfold writeTableWord
  dsimp only
  split
  · exact writeEntryWord_events _ _ w s
  · exact writeProfileWord_events _ _ w s
  · exact writeLaneWord_events _ _ w s
  · exact writeSlotWord_events _ _ w s

/-! ### A register write -/

theorem events_queueSettings {x : ChangeQueue} (hr : x.records = s.queue.records) (hh : x.held = s.queue.held)
    (hn : x.nextSeq = s.queue.nextSeq) : Events s { s with queue := x } :=
  .single (.other ⟨rfl, rfl, rfl, rfl, hr, hh, hn, rfl, rfl⟩)

/-- A host write that only writes items of no law. -/
theorem hostWrite_simple_events {f : State → State} (hf : ∀ u, Events u (f u))
    (h : hostWrite (fun u => .next (f u)) s = .next t) : Events s t :=
  hostWrite_events (fun u t e => by cases e; exact hf u) h

theorem execUnknownCommand_events {w : Word} (h : execUnknownCommand w s = .next t) : Events s t := by
  unfold execUnknownCommand at h
  split at h
  · cases h
  · refine hostWrite_events (fun u t e => ?_) h
    split at e
    · cases e; exact accessError_events _ _ u
    · cases e; exact events_cmd rfl

theorem execPop_events {v : Word} (h : execPop v s = .next t) : Events s t := by
  refine hostWrite_events (fun u t e => ?_) h
  split at e
  · next hh => cases e; exact .reports (.pops hh)
  · cases e; exact accessError_events _ _ u

theorem execTickDivWrite_events {v : Word} (h : execTickDivWrite v s = .next t) : Events s t := by
  refine hostWrite_events (fun u t e => ?_) h
  split at e
  · cases e; exact accessError_events _ _ u
  · cases e; exact events_sched _

theorem execTableSelectWrite_events {v : Word} (h : execTableSelectWrite v s = .next t) : Events s t := by
  refine hostWrite_events (fun u t e => ?_) h
  split at e
  · cases e; exact events_port _
  · cases e; exact accessError_events _ _ u

theorem execRegisterWrite_events {a : Addr} {v : Word} (h : execRegisterWrite a v s = .next t) : Events s t := by
  unfold execRegisterWrite at h
  split at h
  · refine hostWrite_events (fun u t e => ?_) h
    split at e
    · cases e; exact .refl
    · cases e; exact accessError_events _ _ u
  · cases h

theorem execQueueLevelWrite_events {v : Word} (h : execQueueLevelWrite v s = .next t) : Events s t := by
  unfold execQueueLevelWrite at h
  refine hostWrite_simple_events (fun _ => ?_) h
  exact events_queueSettings rfl rfl rfl

theorem execAgeLimitWrite_events {v : Word} (h : execAgeLimitWrite v s = .next t) : Events s t := by
  unfold execAgeLimitWrite at h
  refine hostWrite_simple_events (fun _ => ?_) h
  exact events_queueSettings rfl rfl rfl

/-! ### The reads that have a row -/

theorem execHeadInfoRead_events (h : execHeadInfoRead s = .next t) : Events s t := by
  unfold execHeadInfoRead at h
  exact hostRead_events (fun _ => .reports .opens) h

theorem execTimeHiRead_events (h : execTimeHiRead s = .next t) : Events s t := by
  unfold execTimeHiRead at h
  exact hostRead_events (fun _ => events_port _) h

theorem execTableDataRead_events (h : execTableDataRead s = .next t) : Events s t := by
  unfold execTableDataRead at h
  exact hostRead_events (fun u => (latchSnapshot_events u).trans (advanceOffset_events _)) h

/-! ### The reset pin and the tick -/

theorem execResetRelease_events (h : execResetRelease s = .next t) : Events s t := by
  unfold execResetRelease at h
  split at h
  · cases h; exact .single (.other ⟨rfl, rfl, rfl, rfl, rfl, rfl, rfl, rfl, rfl⟩)
  · cases h

theorem execTick_events (h : execTick s = .next t) : Events s t := by
  unfold execTick at h
  split at h
  · cases h
  · cases h; exact (settleDues_events s).trans (beginTick_events _)

theorem execDue_events {n : EntryNo} (h : execDue n s = .next t) : Events s t := by
  unfold execDue at h
  split at h
  · cases h
  · split at h
    · cases h
    · next d ds _ =>
      have hdue : Events s (handleDue n { s with sched := { s.sched with dues := ds } }) :=
        (events_sched { s.sched with dues := ds }).trans (handleDue_events n _)
      split at h
      · dsimp only at h
        split at h
        · rw [← Host.Outcome.next.inj h]; exact hdue.trans (wakeArbiters_events _)
        · rw [← Host.Outcome.next.inj h]; exact hdue
      · cases h

/-! ### Every command -/

/-- Every command that answers a next state is a sequence of elementary events. -/
theorem exec_events {c : Instr} (h : exec c s = .next t) : Events s t := by
  cases c with
  | powerOnReset => cases h; exact .single .powersOn
  | resetRelease => exact execResetRelease_events h
  | tick => exact execTick_events h
  | due n => exact execDue_events h
  | startScan a => exact hostCommand_events (fun u _ => startScanOwner_events u) h
  | stopScan a => exact hostCommand_events (fun u _ => stopScanOwner_events u) h
  | entryEnable a => exact hostCommand_events (fun u _ => entryEnableOwner_events a u) h
  | entryStop a => exact hostCommand_events (entryStopOwner_events a) h
  | entryRearm a => exact hostCommand_events (fun u _ => entryRearmOwner_events a u) h
  | laneHold a => exact hostCommand_events (laneHoldOwner_events a) h
  | laneRelease a => exact hostCommand_events (fun u _ => laneReleaseOwner_events a u) h
  | laneReset a => exact hostCommand_events (laneResetOwner_events a) h
  | directSubmit a => exact hostCommand_events (fun u _ => directSubmitOwner_events a u) h
  | directCancel a => exact hostCommand_events (directCancelOwner_events a) h
  | directRelease a => exact hostCommand_events (fun u _ => directReleaseOwner_events a u) h
  | queueFlush a => exact hostCommand_events (fun u _ => queueFlushOwner_events u) h
  | softReset a => exact hostWrite_simple_events (fun _ => .single (.softResets a)) h
  | unknownCommand w => exact execUnknownCommand_events h
  | setupEnd l r => exact execSetupEnd_events h
  | readyObserved l k => exact execReadyObserved_events h
  | readyTimeout l => exact execReadyTimeout_events h
  | wordEnd l b r => exact execWordEnd_events h
  | gapEnd l r => exact execGapEnd_events h
  | holdEnd l => exact execHoldEnd_events h
  | deselectEnd l => exact execDeselectEnd_events h
  | headInfoRead => exact execHeadInfoRead_events h
  | pop v => exact execPop_events (v := v) h
  | timeHiRead => exact execTimeHiRead_events h
  | tickDivWrite v => exact execTickDivWrite_events h
  | queueLevelWrite v => exact execQueueLevelWrite_events h
  | ageLimitWrite v => exact execAgeLimitWrite_events h
  | irqCauseWrite v => exact hostWrite_simple_events (fun _ => events_irq _) h
  | irqEnableWrite v => exact hostWrite_simple_events (fun _ => events_irq _) h
  | tableSelectWrite v => exact execTableSelectWrite_events h
  | tableOffsetWrite v => exact hostWrite_simple_events (fun _ => events_port _) h
  | tableDataRead => exact execTableDataRead_events h
  | tableDataWrite v =>
    exact hostWrite_simple_events (fun u => (writeTableWord_events v u).trans (advanceOffset_events _)) h
  | registerWrite a v => exact execRegisterWrite_events h

/-- A law that every elementary event keeps, and of which the waiting commands are no part, is kept by every step. -/
theorem step_keeps {P : State → Prop} (hP : ∀ {s t}, Event s t → P s → P t)
    (hq : ∀ s c, P s → P { s with pending := c }) (h : step s = .next t) (hs : P s) : P t := by
  unfold step at h
  split at h
  · cases h; exact (clockPeriod_events s).keep hP hs
  · next c rest _ => exact (exec_events h).keep hP (hq s rest hs)

end Sys2Proof.Machine
end

section
/-! SUPPORT. The laws of the Change Queue and of pending reports: every elementary event keeps them. -/

namespace Sys2Proof.Machine

variable {s t : State}

@[simp] theorem entry_withFlight (f : InFlight) (s : State) (n : EntryNo) : (withFlight f s).entry n = s.entry n := rfl
@[simp] theorem lane_withFlight (f : InFlight) (s : State) (l : LaneNo) : (withFlight f s).lane l = s.lane l := rfl
@[simp] theorem slot_withFlight (f : InFlight) (s : State) (k : SlotNo) : (withFlight f s).slot k = s.slot k := rfl
@[simp] theorem inFlight_withFlight (f : InFlight) (s : State) : (withFlight f s).cmd.inFlight = some f := rfl

/-! ### The end of a transaction, by its owner -/

/-- Every way the owner of a transaction is told that it is over (R12, R20, R150). -/
theorem handOver_cases (x : Txn) (o : TxnOutcome) (s : State) :
    (∃ n, x.owner = .entry n ∧ (s.entry n).run.state = .stopping ∧
      handOver x o s = completeFlight (.entryStop n) .ok (reachOff n s)) ∨
    (∃ n, x.owner = .entry n ∧ (s.entry n).run.state = .active ∧
      handOver x o s = s.modRun n fun r => { r with state := .wait }) ∨
    (∃ n, x.owner = .entry n ∧ (s.entry n).run.state ≠ .stopping ∧ (s.entry n).run.state ≠ .active ∧
      handOver x o s = s) ∨
    (∃ k words, x.owner = .slot k ∧ (s.slot k).state = .running ∧
      handOver x o s =
        completeFlight (.directCancel k) (cancelResult o)
          (notifyDirect (s.slot k).req.notify
            (dropUse (s.slot k).req.profile (s.setSlot k (finished o words (s.slot k)))))) ∨
    (∃ k, x.owner = .slot k ∧ (s.slot k).state ≠ .running ∧
      handOver x o s = completeFlight (.directCancel k) (cancelResult o) s) := by
  unfold handOver
  cases ho : x.owner with
  | slot k =>
    right; right; right
    by_cases hk : (s.slot k).state = .running
    · exact .inl ⟨k, _, rfl, hk, by dsimp only; rw [deliverSlot_running _ _ _ hk]⟩
    · exact .inr ⟨k, rfl, hk, by dsimp only; rw [deliverSlot_not_running _ _ _ hk]⟩
  | entry n =>
    cases hs : (s.entry n).run.state with
    | stopping => exact .inl ⟨n, rfl, hs, by simp [hs]⟩
    | active => exact .inr (.inl ⟨n, rfl, hs, by simp [hs]⟩)
    | off => exact .inr (.inr (.inl ⟨n, rfl, by simp [hs], by simp [hs], by simp [hs]⟩))
    | wait => exact .inr (.inr (.inl ⟨n, rfl, by simp [hs], by simp [hs], by simp [hs]⟩))
    | queued => exact .inr (.inr (.inl ⟨n, rfl, by simp [hs], by simp [hs], by simp [hs]⟩))

/-! ### What an event does to the values of an entry -/

/-- The ranges of an entry's counters (R8, R84, R90, R133). -/
def InRange (r : EntryRun) : Prop := r.failRun ≤ 15 ∧ r.skips ≤ 255 ∧ r.countdown ≤ 524280

/-- An entry keeps the report it owes or owes none, and its counters stay in their ranges. -/
structure ValuesKept (r r' : EntryRun) : Prop where
  owed : (r'.pending = r.pending ∧ r'.overwritten = r.overwritten) ∨ (r'.pending = .none ∧ r'.overwritten = false)
  inRange : InRange r → InRange r'

theorem ValuesKept.refl (r : EntryRun) : ValuesKept r r := ⟨.inl ⟨rfl, rfl⟩, id⟩

theorem ValuesOnly.kept {r r' : EntryRun} (h : ValuesOnly r r') : ValuesKept r r' :=
  ⟨h.owed, fun ⟨hf, hs, hc⟩ => ⟨h.failRun hf, h.skips ▸ hs, h.countdown ▸ hc⟩⟩

/-- A change of STATE alone. -/
theorem ValuesKept.of_state (r : EntryRun) (x : EntryState) : ValuesKept r { r with state := x } :=
  ⟨.inl ⟨rfl, rfl⟩, id⟩

theorem ValuesKept.modRun {n : EntryNo} {f : EntryRun → EntryRun}
    (h : ValuesKept (s.entry n).run (f (s.entry n).run)) (m : EntryNo) :
    ValuesKept (s.entry m).run ((s.modRun n f).entry m).run := by
  by_cases hm : n = m
  · subst hm; simpa using h
  · simpa [hm] using .refl _

theorem reload_le (e : Entry) : reload e ≤ 524280 := by
  have := e.cfg.period.isLt
  unfold reload
  split <;> omega

theorem ValuesKept.skipDue {r : EntryRun} {c : Nat} (hc : c ≤ 524280) :
    ValuesKept r (skipDue { r with countdown := c }) :=
  ⟨.inl ⟨rfl, rfl⟩, fun ⟨hf, _, _⟩ => ⟨hf, Nat.min_le_left .., hc⟩⟩

theorem ValuesKept.unqueue (r : EntryRun) : ValuesKept r (unqueue r) := by
  unfold Machine.unqueue
  split
  · exact .of_state r .wait
  · exact .refl r

theorem ValuesKept.reachOff (n m : EntryNo) (s : State) :
    ValuesKept (s.entry m).run ((reachOff n s).entry m).run := by
  by_cases hm : n = m
  · subst hm; simpa using ⟨.inr ⟨rfl, rfl⟩, id⟩
  · simpa [hm] using .refl _

theorem ValuesKept.handOver (x : Txn) (o : TxnOutcome) (s : State) (m : EntryNo) :
    ValuesKept (s.entry m).run ((handOver x o s).entry m).run := by
  rcases handOver_cases x o s with ⟨n, _, _, h⟩ | ⟨n, _, _, h⟩ | ⟨n, _, _, _, h⟩ | ⟨k, w, _, _, h⟩ | ⟨k, _, _, h⟩
  · rw [h, entry_completeFlight]; exact .reachOff n m s
  · rw [h]; exact .modRun (.of_state _ _) m
  · rw [h]; exact .refl _
  · rw [h]; simpa using .refl _
  · rw [h]; simpa using .refl _

/-- A move keeps every entry's report and ranges. -/
theorem Moves.valuesKept (h : Moves s t) (m : EntryNo) : ValuesKept (s.entry m).run (t.entry m).run := by
  cases h with
  | offered n hw hq =>
    rw [entry_modLane_other]
    refine .modRun ⟨.inl ⟨rfl, rfl⟩, ?_⟩ m
    exact fun ⟨hf, hs, _⟩ => ⟨hf, hs, reload_le (s.entry n)⟩
  | takesEntry l n q hm hp hq => exact .modRun (s := s) (f := fun r => { r with state := .active }) (.of_state _ _) m
  | stopsScan => rw [entry_mapRuns]; exact .unqueue _
  | enables n hs hv =>
    rw [entry_raiseUse_other]
    refine .modRun ⟨.inr ⟨rfl, rfl⟩, fun _ => ⟨Nat.zero_le _, Nat.zero_le _, ?_⟩⟩ m
    exact (Nat.succ_le_of_lt (s.entry n).cfg.phase.isLt).trans (by decide)
  | stopsWaiting n hs => exact .reachOff n m s
  | stopsQueued n hs => exact .reachOff n m _
  | stopsActive n hs hf => exact .modRun (s := s) (f := fun r => { r with state := .stopping }) (.of_state _ _) m
  | clears l hi hf =>
    rw [entry_mapRuns]
    dsimp only
    split
    · exact .unqueue _
    · exact .refl _
  | finishes l x o ht hi => exact .handOver x o (s.modLane l released) m
  | holdsAtLast l hm hp => rw [entry_completeFlight]; exact .refl _
  | withdraws k hs => unfold cancelQueued; dsimp only; rw [entry_notifyDirect]; exact .refl _
  | _ => exact .refl _

theorem Passes.valuesKept (h : Passes s t) (m : EntryNo) : ValuesKept (s.entry m).run (t.entry m).run := by
  cases h with
  | skipped n =>
    refine .modRun ?_ m
    exact .skipDue (reload_le (s.entry n))
  | counts =>
    unfold countEntries
    rw [entry_mapRuns]
    dsimp only
    split
    · exact ⟨.inl ⟨rfl, rfl⟩, fun ⟨hf, hs, hc⟩ => ⟨hf, hs, (Nat.sub_le ..).trans hc⟩⟩
    · exact .refl _
  | writesEntry n i w hs =>
    rw [entry_setEntry]
    split
    · next h => subst h; exact .refl _
    · exact .refl _
  | _ => exact .refl _

/-- A move reaches nothing of the Change Queue. -/
theorem Moves.queue_eq (h : Moves s t) : t.queue = s.queue := by
  cases h with
  | finishes l x o ht hi =>
    rcases handOver_cases x o (s.modLane l released) with
      ⟨n, _, _, h⟩ | ⟨n, _, _, h⟩ | ⟨n, _, _, _, h⟩ | ⟨k, w, _, _, h⟩ | ⟨k, _, _, h⟩
    · rw [h, queue_completeFlight]; rfl
    · rw [h]; rfl
    · rw [h]; rfl
    · rw [h, queue_completeFlight, queue_notifyDirect]; rfl
    · rw [h, queue_completeFlight]; rfl
  | holdsAtLast l hm hp => rw [queue_completeFlight]; rfl
  | withdraws k hs => unfold cancelQueued; dsimp only; rw [queue_notifyDirect]; rfl
  | _ => rfl

theorem Passes.queue_eq (h : Passes s t) : t.queue = s.queue := by cases h <;> rfl

end Sys2Proof.Machine
end

section
/-! SUPPORT. The laws of the Change Queue and of pending reports, continued: the drain, the records in
order, and the two statements. -/

namespace Sys2Proof.Machine

variable {s t : State}

/-! ### The drain, entry by entry -/

/-- A report that is owed no more is cleared (R66, R69). -/
def lapse (s : State) (n : EntryNo) : State :=
  if (s.entry n).run.pending = .none then s
  else s.modRun n fun e => { e with pending := .none, overwritten := false }

/-- The report of an entry posted by the drain (R66 to R68). -/
def postOwed (n : EntryNo) (s : State) : State :=
  (appendRecord (drainedRecord n (s.entry n).run s.queue.nextSeq s.sched.time) s).modRun n afterDrain

theorem drainFrom_lapse {n : EntryNo} {ns : List EntryNo} (h : ¬ReportOwed (s.entry n)) :
    drainFrom (n :: ns) s = drainFrom ns (lapse s n) := by
  rw [reportOwed_iff] at h
  by_cases hp : (s.entry n).run.pending = .none
  · simp [drainFrom, lapse, hp]
  · have hs : ¬stillOwed (s.entry n) = true := fun hs => h ⟨hp, hs⟩
    simp [drainFrom, lapse, hp, hs]

theorem drainFrom_post {n : EntryNo} {ns : List EntryNo} (h : ReportOwed (s.entry n)) :
    drainFrom (n :: ns) s = postOwed n s := by
  obtain ⟨hp, hs⟩ := (reportOwed_iff _).1 h
  simp [drainFrom, hp, hs, postOwed]

theorem entry_lapse (n m : EntryNo) (s : State) :
    (lapse s n).entry m =
      if n = m ∧ (s.entry n).run.pending ≠ .none then
        { s.entry n with run := { (s.entry n).run with pending := .none, overwritten := false } }
      else s.entry m := by
  unfold lapse
  by_cases hp : (s.entry n).run.pending = .none <;> simp [hp]

@[simp] theorem queue_lapse (n : EntryNo) (s : State) : (lapse s n).queue = s.queue := by
  unfold lapse; split <;> rfl

theorem ValuesOnly.refl (r : EntryRun) : ValuesOnly r r := .of_values rfl rfl rfl id rfl rfl

theorem ValuesOnly.trans {r r' r'' : EntryRun} (h : ValuesOnly r r') (h' : ValuesOnly r' r'') :
    ValuesOnly r r'' := by
  refine ⟨⟨h'.state.trans h.state, h'.skips.trans h.skips, h'.countdown.trans h.countdown,
    fun hf => h'.failRun (h.failRun hf)⟩, ?_⟩
  rcases h'.owed with ⟨hp, ho⟩ | h'
  · rcases h.owed with ⟨hp', ho'⟩ | ⟨hp', ho'⟩
    · exact .inl ⟨hp.trans hp', ho.trans ho'⟩
    · exact .inr ⟨hp.trans hp', ho.trans ho'⟩
  · exact .inr h'

theorem ValuesOnly.modRun {n : EntryNo} {f : EntryRun → EntryRun}
    (h : ValuesOnly (s.entry n).run (f (s.entry n).run)) (m : EntryNo) :
    ValuesOnly (s.entry m).run ((s.modRun n f).entry m).run := by
  by_cases hm : n = m
  · subst hm; simpa using h
  · simpa [hm] using .refl _

theorem lapse_valuesOnly (n m : EntryNo) (s : State) : ValuesOnly (s.entry m).run ((lapse s n).entry m).run := by
  rw [entry_lapse]
  split
  · next h => rw [← h.1]; exact ⟨⟨rfl, rfl, rfl, id⟩, .inr ⟨rfl, rfl⟩⟩
  · exact .refl _

theorem afterDrain_valuesOnly (r : EntryRun) : ValuesOnly r (afterDrain r) := by
  unfold afterDrain
  split <;> exact ⟨⟨rfl, rfl, rfl, id⟩, .inr ⟨rfl, rfl⟩⟩

theorem postOwed_valuesOnly (n m : EntryNo) (s : State) :
    ValuesOnly (s.entry m).run ((postOwed n s).entry m).run := by
  unfold postOwed
  exact .modRun (s := appendRecord _ s) (afterDrain_valuesOnly _) m

/-- The drain changes values only (R66 to R69). -/
theorem drainFrom_valuesOnly (ns : List EntryNo) (s : State) (m : EntryNo) :
    ValuesOnly (s.entry m).run ((drainFrom ns s).entry m).run := by
  induction ns generalizing s with
  | nil => exact .refl _
  | cons n ns ih =>
    by_cases h : ReportOwed (s.entry n)
    · rw [drainFrom_post h]; exact postOwed_valuesOnly n m s
    · rw [drainFrom_lapse h]; exact (lapse_valuesOnly n m s).trans (ih _)

/-- A drain posts one record, or none and leaves no report owed by the entries it passed (R65, R69). -/
theorem drainFrom_queue (ns : List EntryNo) (s : State) :
    (∃ n e, (drainFrom ns s).queue =
      { s.queue with
        records := s.queue.records ++ [drainedRecord n e s.queue.nextSeq s.sched.time]
        nextSeq := s.queue.nextSeq + 1 }) ∨
    ((drainFrom ns s).queue = s.queue ∧ ∀ n ∈ ns, ((drainFrom ns s).entry n).run.pending = .none) := by
  induction ns generalizing s with
  | nil => exact .inr ⟨rfl, by simp⟩
  | cons n ns ih =>
    by_cases h : ReportOwed (s.entry n)
    · rw [drainFrom_post h]; exact .inl ⟨n, _, rfl⟩
    · rw [drainFrom_lapse h]
      have hsched : (lapse s n).sched = s.sched := by unfold lapse; split <;> rfl
      rcases ih (lapse s n) with ⟨m, e, hq⟩ | ⟨hq, hnone⟩
      · rw [queue_lapse, hsched] at hq
        exact .inl ⟨m, e, hq⟩
      · rw [queue_lapse] at hq
        refine .inr ⟨hq, fun m hm => ?_⟩
        rcases List.mem_cons.1 hm with rfl | hm
        · have hlapsed : ((lapse s m).entry m).run.pending = .none := by
            rw [entry_lapse]
            split
            · rfl
            · next hp => simpa using hp
          rcases (drainFrom_valuesOnly ns (lapse s m) m).owed with ⟨hp, _⟩ | ⟨hp, _⟩
          · rw [hp, hlapsed]
          · exact hp
        · exact hnone m hm

/-! ### The records in order -/

theorem SeqChain.tail {rs : List Record} {next : Word} (h : SeqChain rs next) : SeqChain rs.tail next := by
  match rs, h with
  | [], _ => trivial
  | [_], _ => trivial
  | _ :: _ :: _, h => exact h.2

/-- A record at the tail takes the next SEQ, and the counter goes on (R49). -/
theorem SeqChain.append {rs : List Record} {x : Record} {next : Word} (h : SeqChain rs next) (hx : x.seq = next) :
    SeqChain (rs ++ [x]) (next + 1) := by
  match rs, h with
  | [], _ => simp [SeqChain, hx]
  | [r], h => exact ⟨h.trans hx.symm, by simp [SeqChain, hx]⟩
  | r :: q :: rest, h => exact ⟨h.1, SeqChain.append (rs := q :: rest) h.2 hx⟩

/-- The chain of SEQ is that of any records with the same numbers in its place. -/
theorem SeqChain.replace {ahead behind : List Record} {x y : Record} {next : Word} (hy : y.seq = x.seq)
    (h : SeqChain (ahead ++ x :: behind) next) : SeqChain (ahead ++ y :: behind) next := by
  match ahead, behind, h with
  | [], [], h => simpa [SeqChain, hy] using h
  | [], _ :: _, h => simpa [SeqChain, hy] using h
  | [r], _, h => exact ⟨h.1.trans hy.symm, SeqChain.replace (ahead := []) hy h.2⟩
  | r :: q :: rest, _, h => exact ⟨h.1, SeqChain.replace (ahead := q :: rest) hy h.2⟩

/-! ### The law of the Change Queue -/

theorem QueueLaw.congr (hr : t.queue.records = s.queue.records) (hh : t.queue.held = s.queue.held)
    (hn : t.queue.nextSeq = s.queue.nextSeq) (h : QueueLaw s) : QueueLaw t := by
  unfold QueueLaw
  rw [hr, hh, hn]
  exact h

theorem QueueLaw.of_queue_eq (hq : t.queue = s.queue) (h : QueueLaw s) : QueueLaw t :=
  h.congr (by rw [hq]) (by rw [hq]) (by rw [hq])

theorem QueueLaw.of_empty (hr : t.queue.records = []) (hh : t.queue.held = false) : QueueLaw t := by
  refine ⟨by simp [hr], by simp [hr, SeqChain], by simp [hh], by simp [hr]⟩

/-- A record appended where there is room (R49, R53). -/
theorem QueueLaw.append {x : Record} (h : QueueLaw s) (hroom : s.queue.records.length < Config.changeQueueSize)
    (hr : t.queue.records = s.queue.records ++ [x]) (hn : t.queue.nextSeq = s.queue.nextSeq + 1)
    (hx : x.seq = s.queue.nextSeq) (hc : x.count = 1) : QueueLaw t := by
  obtain ⟨_, hchain, _, hcount⟩ := h
  refine ⟨?_, ?_, by simp [hr], ?_⟩
  · simpa [hr] using hroom
  · rw [hr, hn]; exact hchain.append hx
  · intro r hm
    rw [hr, List.mem_append, List.mem_singleton] at hm
    rcases hm with hm | rfl
    · exact hcount r hm
    · simp [hc]

/-- A fold keeps the place and the number of its record (R48, R52). -/
theorem QueueLaw.fold {i : Nat} {r : Request} (h : QueueLaw s) (hf : foldTarget r.entry s.queue = some i) :
    QueueLaw (foldAt i r s) := by
  obtain ⟨hi, x, hx, hk, _⟩ := foldTarget_some hf
  obtain ⟨ahead, behind, y, hq, hl, _, _⟩ := newestOf_some hi
  have hxy : x = y := by
    rw [hq, ← hl] at hx
    simpa using hx.symm
  subst hxy hl
  obtain ⟨hlen, hchain, _, hcount⟩ := h
  rw [hq] at hlen hchain hcount
  have hseq : (foldRecord r s.sched.time x).seq = x.seq := rfl
  unfold QueueLaw
  rw [foldAt_queue hq]
  refine ⟨by simpa using hlen, hchain.replace hseq, by simp, fun y hy => ?_⟩
  rcases List.mem_append.1 hy with hy | hy
  · exact hcount y (by simp [hy])
  · rcases List.mem_cons.1 hy with rfl | hy
    · refine ⟨?_, Nat.min_le_left .., fun hne => absurd hk hne⟩
      simp only [foldRecord]
      omega
    · exact hcount y (by simp [hy])

theorem post_keeps_queueLaw (r : Request) (h : QueueLaw s) : QueueLaw (post r s) := by
  rcases post_cases r s with ⟨i, _, hf, _, e⟩ | ⟨hroom, e⟩ | ⟨_, e⟩
  · rw [e]; exact (h.fold hf).of_queue_eq (applyReported_queue _ _)
  · rw [e]; exact h.append hroom rfl rfl rfl rfl
  · rw [e]; exact h.of_queue_eq (applyDeferred_queue _ _)

/-- The POP of a held head leaves room for the record its drain may post (R59, R65). -/
theorem pop_keeps_queueLaw (hh : s.queue.held = true) (h : QueueLaw s) : QueueLaw (drain (removeHead s)) := by
  obtain ⟨hlen, hchain, hheld, hcount⟩ := h
  have hroom : s.queue.records.tail.length < Config.changeQueueSize := by
    have := List.length_pos_of_ne_nil (hheld hh)
    rw [List.length_tail]
    omega
  have hremoved : QueueLaw (removeHead s) :=
    ⟨hroom.le, hchain.tail, by simp [removeHead], fun r hr => hcount r (List.mem_of_mem_tail hr)⟩
  rcases drainFrom_queue (List.finRange 64) (removeHead s) with ⟨n, e, hq⟩ | ⟨hq, _⟩
  · exact hremoved.append hroom (by rw [drain, hq]) (by rw [drain, hq]) rfl rfl
  · exact hremoved.of_queue_eq hq

theorem Event.keeps_queueLaw (h : Event s t) (hs : QueueLaw s) : QueueLaw t := by
  cases h with
  | other h => exact hs.congr h.records h.held h.nextSeq
  | passes h => exact hs.of_queue_eq h.queue_eq
  | moves h => exact hs.of_queue_eq h.queue_eq
  | powersOn => exact .of_empty rfl rfl
  | softResets arg => exact .of_empty rfl rfl
  | reports h =>
    cases h with
    | values n f h => exact hs
    | posts r => exact post_keeps_queueLaw r hs
    | flushes => exact .of_empty rfl rfl
    | pops hh => exact pop_keeps_queueLaw hh hs
    | opens =>
      unfold openHead
      split
      · exact hs
      · next hr =>
        obtain ⟨hlen, hchain, _, hcount⟩ := hs
        exact ⟨hlen, hchain, fun _ => by simp [hr], hcount⟩

/-- Settles O54: each record takes the next SEQ at the tail, and a fold keeps the place of its record. -/
theorem stepKeepsTheChangeQueue : Obligations.StepKeepsTheChangeQueue :=
  fun _ _ hs h => step_keeps Event.keeps_queueLaw (fun _ _ h => h) h hs

/-! ### The law of pending reports -/

/-- Reports owed before or none: with the records as many as before the law goes on. -/
theorem PendingLaw.of_owed (hr : t.queue.records.length = s.queue.records.length)
    (ho : ∀ n, ((t.entry n).run.pending = (s.entry n).run.pending ∧
        (t.entry n).run.overwritten = (s.entry n).run.overwritten) ∨
      ((t.entry n).run.pending = .none ∧ (t.entry n).run.overwritten = false)) (h : PendingLaw s) :
    PendingLaw t := by
  refine ⟨hr ▸ h.1, fun n => ?_⟩
  rw [hr]
  rcases ho n with ⟨hp, hw⟩ | ⟨hp, hw⟩
  · rw [hp, hw]; exact h.2 n
  · simp [hp, hw]

/-- With no report owed the law holds of any records that fit. -/
theorem PendingLaw.of_none (hr : t.queue.records.length ≤ Config.changeQueueSize)
    (ho : ∀ n, (t.entry n).run.pending = .none ∧ (t.entry n).run.overwritten = false) : PendingLaw t :=
  ⟨hr, fun n => by simp [ho n]⟩

/-- Where the queue has room no report is owed (R61). -/
theorem PendingLaw.none_owed (h : PendingLaw s) (hroom : s.queue.records.length < Config.changeQueueSize)
    (n : EntryNo) : (s.entry n).run.pending = .none ∧ (s.entry n).run.overwritten = false := by
  have hp : (s.entry n).run.pending = .none := by
    by_contra hne
    exact hroom.ne ((h.2 n).1 hne)
  exact ⟨hp, (h.2 n).2 hp⟩

theorem applyReported_valuesOnly (r : Request) (m : EntryNo) (s : State) :
    ValuesOnly (s.entry m).run ((applyReported r s).entry m).run := by
  refine .modRun ?_ m
  cases r.kind <;> exact .of_values rfl rfl rfl id rfl rfl

/-- A deferred request leaves a report owed (R62). -/
theorem deferTable_owed (p : Pending) (r : Request) : (deferTable p (requestColumn r)).1 ≠ .none := by
  have hcolumn : requestColumn r ≠ .none := by
    unfold requestColumn
    cases r.kind with
    | change => cases r.initial <;> simp
    | _ => simp
  unfold deferTable
  split <;> simp_all

theorem post_keeps_pendingLaw (r : Request) (h : PendingLaw s) : PendingLaw (post r s) := by
  rcases post_cases r s with ⟨i, _, _, _, e⟩ | ⟨hroom, e⟩ | ⟨hfull, e⟩
  · rw [e]
    have hlength : (foldAt i r s).queue.records.length = s.queue.records.length := by simp [foldAt]
    exact h.of_owed hlength fun n => (applyReported_valuesOnly r n (foldAt i r s)).owed
  · rw [e]
    refine .of_none (by simpa [appendRecord] using hroom) fun n => ?_
    have hnone := h.none_owed hroom n
    rcases (applyReported_valuesOnly r n (appendRecord _ s)).owed with ⟨hp, hw⟩ | hclear
    · exact ⟨hp.trans hnone.1, hw.trans hnone.2⟩
    · exact hclear
  · rw [e]
    have hlen : s.queue.records.length = Config.changeQueueSize := Nat.le_antisymm h.1 hfull
    refine ⟨h.1, fun n => ⟨fun _ => hlen, fun hp => ?_⟩⟩
    by_cases hn : n = r.entry
    · subst hn
      exact absurd hp (by simpa [applyDeferred] using deferTable_owed _ r)
    · rw [entry_applyDeferred_of_ne hn] at hp ⊢
      exact (h.2 n).2 hp

/-- The POP of a full queue makes room for one report that is owed, or no report is owed (R65, R69). -/
theorem pop_keeps_pendingLaw (h : PendingLaw s) : PendingLaw (drain (removeHead s)) := by
  have hvalues := drainFrom_valuesOnly (List.finRange 64) (removeHead s)
  have howed : ∀ n, (((drain (removeHead s)).entry n).run.pending = (s.entry n).run.pending ∧
        ((drain (removeHead s)).entry n).run.overwritten = (s.entry n).run.overwritten) ∨
      (((drain (removeHead s)).entry n).run.pending = .none ∧
        ((drain (removeHead s)).entry n).run.overwritten = false) := fun n => (hvalues n).owed
  have htail : s.queue.records.tail.length ≤ Config.changeQueueSize := by
    rw [List.length_tail]; exact (Nat.sub_le ..).trans h.1
  rcases drainFrom_queue (List.finRange 64) (removeHead s) with ⟨n, e, hq⟩ | ⟨hq, hnone⟩
  · have hlength : (drain (removeHead s)).queue.records.length = s.queue.records.tail.length + 1 := by
      rw [drain, hq]
      simp [removeHead]
    by_cases hempty : s.queue.records = []
    · refine .of_none (by simp [hlength, hempty, Config.changeQueueSize]) fun m => ?_
      have hm := h.none_owed (by simp [hempty, Config.changeQueueSize]) m
      rcases howed m with ⟨hp, hw⟩ | hclear
      · exact ⟨hp.trans hm.1, hw.trans hm.2⟩
      · exact hclear
    · refine h.of_owed ?_ howed
      have := List.length_pos_of_ne_nil hempty
      rw [hlength, List.length_tail]
      omega
  · refine .of_none (by rw [drain, hq]; exact htail) fun m => ?_
    have hp : ((drain (removeHead s)).entry m).run.pending = .none := hnone m (List.mem_finRange m)
    rcases howed m with ⟨hp', hw⟩ | hclear
    · exact ⟨hp, hw.trans ((h.2 m).2 (hp'.symm.trans hp))⟩
    · exact hclear

theorem Event.keeps_pendingLaw (h : Event s t) (hs : PendingLaw s) : PendingLaw t := by
  cases h with
  | other h =>
    exact hs.of_owed (by rw [h.records]) fun n => .inl (by simp [entry_congr h.entries n])
  | passes h => exact hs.of_owed (by rw [h.queue_eq]) fun n => (h.valuesKept n).owed
  | moves h => exact hs.of_owed (by rw [h.queue_eq]) fun n => (h.valuesKept n).owed
  | powersOn =>
    refine .of_none (Nat.zero_le _) fun n => ?_
    simp [State.entry, State.powerOn, EntryRun.powerOn]
  | softResets arg =>
    refine .of_none (Nat.zero_le _) fun n => ?_
    simp [State.entry, softReset, getElem_mapTable, EntryRun.powerOn]
  | reports h =>
    cases h with
    | values n f h => exact PendingLaw.of_owed (s := s) rfl (fun m => (ValuesOnly.modRun h m).owed) hs
    | posts r => exact post_keeps_pendingLaw r hs
    | flushes =>
      refine .of_none (Nat.zero_le _) fun n => ?_
      simp only [entry_mapRuns, flushRun]
      split <;> exact ⟨rfl, rfl⟩
    | pops hh => exact pop_keeps_pendingLaw hs
    | opens => unfold openHead; split <;> exact hs

/-- Settles O55: the only room a POP makes is filled by the drain while a report is owed. -/
theorem stepKeepsPendingReports : Obligations.StepKeepsPendingReports :=
  fun _ _ hs h => step_keeps Event.keeps_pendingLaw (fun _ _ h => h) h hs

end Sys2Proof.Machine
end

section
/-! SUPPORT. The bounds of lanes, counters and profiles in use: every elementary event keeps them. -/

namespace Sys2Proof.Machine

variable {s t : State}

/-! ### What a report leaves alone -/

@[simp] theorem cfg_modRun (n m : EntryNo) (f : EntryRun → EntryRun) (s : State) :
    ((s.modRun n f).entry m).cfg = (s.entry m).cfg := by
  by_cases h : n = m
  · subst h; simp
  · simp [h]

@[simp] theorem cfg_post (r : Request) (m : EntryNo) (s : State) : ((post r s).entry m).cfg = (s.entry m).cfg := by
  rcases post_cases r s with ⟨i, _, _, _, e⟩ | ⟨_, e⟩ | ⟨_, e⟩
  · rw [e]; exact cfg_modRun _ _ _ (foldAt i r s)
  · rw [e]; exact cfg_modRun _ _ _ (appendRecord _ s)
  · rw [e]; exact cfg_modRun _ _ _ s

theorem cfg_drainFrom (ns : List EntryNo) (m : EntryNo) (s : State) :
    ((drainFrom ns s).entry m).cfg = (s.entry m).cfg := by
  induction ns generalizing s with
  | nil => rfl
  | cons n ns ih =>
    by_cases h : ReportOwed (s.entry n)
    · rw [drainFrom_post h]; exact cfg_modRun _ _ _ (appendRecord _ s)
    · rw [drainFrom_lapse h, ih, lapse]
      split
      · rfl
      · exact cfg_modRun ..

theorem Unmoved.refl (r : EntryRun) : Unmoved r r := ⟨rfl, rfl, rfl, id⟩

theorem applyDeferred_unmoved (r : Request) (m : EntryNo) (s : State) :
    Unmoved (s.entry m).run ((applyDeferred r s).entry m).run := by
  by_cases h : m = r.entry
  · subst h; simpa [applyDeferred] using ⟨rfl, rfl, rfl, id⟩
  · rw [entry_applyDeferred_of_ne h]; exact .refl _

theorem post_unmoved (r : Request) (m : EntryNo) (s : State) :
    Unmoved (s.entry m).run ((post r s).entry m).run := by
  rcases post_cases r s with ⟨i, _, _, _, e⟩ | ⟨_, e⟩ | ⟨_, e⟩
  · rw [e]; exact (applyReported_valuesOnly r m (foldAt i r s)).toUnmoved
  · rw [e]; exact (applyReported_valuesOnly r m (appendRecord _ s)).toUnmoved
  · rw [e]; exact applyDeferred_unmoved r m s

theorem flushRun_unmoved (r : EntryRun) : Unmoved r (flushRun r) := by
  unfold flushRun
  dsimp only
  split <;> exact ⟨rfl, rfl, rfl, id⟩

/-- A report keeps every entry's configuration, STATE and counters. -/
theorem Reports.entry (h : Reports s t) (m : EntryNo) :
    (t.entry m).cfg = (s.entry m).cfg ∧ Unmoved (s.entry m).run (t.entry m).run := by
  cases h with
  | values n f h => exact ⟨cfg_modRun .., (ValuesOnly.modRun h m).toUnmoved⟩
  | posts r => exact ⟨cfg_post .., post_unmoved r m s⟩
  | flushes => rw [entry_mapRuns]; exact ⟨rfl, flushRun_unmoved _⟩
  | opens => unfold openHead; split <;> exact ⟨rfl, .refl _⟩
  | pops hh =>
    exact ⟨cfg_drainFrom _ m (removeHead s), (drainFrom_valuesOnly _ (removeHead s) m).toUnmoved⟩

/-- A report reaches nothing but the entries and the Change Queue. -/
theorem Reports.frame (h : Reports s t) : t = { s with entries := t.entries, queue := t.queue } := by
  cases h with
  | values n f h => rfl
  | posts r => exact post_frame r s
  | flushes => rfl
  | opens => unfold openHead; split <;> rfl
  | pops hh => exact drain_frame (removeHead s)

theorem Reports.lane (h : Reports s t) (l : LaneNo) : t.lane l = s.lane l := by rw [h.frame]; rfl
theorem Reports.profile (h : Reports s t) (p : ProfileNo) : t.profile p = s.profile p := by rw [h.frame]; rfl
theorem Reports.direct (h : Reports s t) : t.direct = s.direct := by rw [h.frame]
theorem Reports.slot (h : Reports s t) (k : SlotNo) : t.slot k = s.slot k := slot_congr h.direct k
theorem Reports.cmd (h : Reports s t) : t.cmd = s.cmd := by rw [h.frame]

/-! ### Counters -/

theorem Event.keeps_counterLaw (h : Event s t) (hs : CounterLaw s) : CounterLaw t := by
  intro n
  cases h with
  | other h => rw [entry_congr h.entries n]; exact hs n
  | passes h => exact (h.valuesKept n).inRange (hs n)
  | moves h => exact (h.valuesKept n).inRange (hs n)
  | reports h =>
    obtain ⟨hf, hk, hc⟩ := hs n
    have hu := (h.entry n).2
    exact ⟨hu.failRun hf, hu.skips ▸ hk, hu.countdown ▸ hc⟩
  | powersOn => simp [State.entry, State.powerOn, EntryRun.powerOn]
  | softResets arg => simp [State.entry, softReset, getElem_mapTable, EntryRun.powerOn]

/-! ### Lanes -/

/-- The bounds of one lane (R109, R110, R116, R118, R125). -/
def LaneBounds (L : Lane) : Prop :=
  L.queue.length ≤ Config.laneQueueSize ∧ L.streak ≤ 4 ∧ (L.phase = .idle ↔ L.txn = none) ∧
    (L.mode = .held → L.phase = .idle) ∧ (∀ x, L.txn = some x → L.phase = .hold → x.ending ≠ none) ∧
    1 ≤ L.minDeselect.toNat

theorem laneLaw_iff (s : State) : LaneLaw s ↔ ∀ l, LaneBounds (s.lane l) := Iff.rfl

theorem LaneBounds.of_idle {L : Lane} (hq : L.queue.length ≤ Config.laneQueueSize) (hs : L.streak ≤ 4)
    (hp : L.phase = .idle) (ht : L.txn = none) (hd : 1 ≤ L.minDeselect.toNat) : LaneBounds L :=
  ⟨hq, hs, by simp [hp, ht], fun _ => hp, by simp [ht], hd⟩

theorem LaneBounds.begun {o : Owner} {i : SelectNo} {p : LineProfile} {w : Nat} {L : Lane}
    (hq : L.queue.length ≤ Config.laneQueueSize) (hs : L.streak ≤ 4) (hm : L.mode = .running)
    (hd : 1 ≤ L.minDeselect.toNat) : LaneBounds (begun o i p w L) :=
  ⟨hq, hs, by simp [Machine.begun], by simp [Machine.begun, hm], by simp [Machine.begun], hd⟩

theorem not_idle_of_inFlight {L : Lane} (h : L.inFlight = true) : L.phase ≠ .idle := by
  rintro hp
  simp [Lane.inFlight, hp] at h

theorem GoesOn.laneBounds {L L' : Lane} (h : GoesOn L L') (hL : LaneBounds L) : LaneBounds L' := by
  obtain ⟨hq, hs, _, hheld, _, hd⟩ := hL
  refine ⟨h.queue ▸ hq, h.streak ▸ hs, ?_, fun hm => ?_, h.ended, h.minDeselect ▸ hd⟩
  · exact iff_of_false (not_idle_of_inFlight h.goes) h.begun
  · exact absurd (hheld (h.mode ▸ hm)) (not_idle_of_inFlight h.flying)

theorem LaneBounds.released {L : Lane} (hi : L.inFlight = true) (hL : LaneBounds L) :
    LaneBounds (released L) := by
  obtain ⟨hq, hs, hidle, hheld, _, hd⟩ := hL
  have hne := not_idle_of_inFlight hi
  refine ⟨hq, hs, ?_, fun hm => absurd (hheld hm) hne, by simp [Machine.released], hd⟩
  exact iff_of_false (by simp [Machine.released]) fun ht => hne (hidle.2 ht)

theorem LaneLaw.modLane {l : LaneNo} {f : Lane → Lane} (hf : LaneBounds (s.lane l) → LaneBounds (f (s.lane l)))
    (hs : LaneLaw s) : LaneLaw (s.modLane l f) := by
  intro m
  rw [lane_modLane]
  split
  · exact hf (hs l)
  · exact hs m

/-- An operation that reaches no lane keeps their bounds. -/
theorem LaneLaw.congr (h : ∀ l, t.lane l = s.lane l) (hs : LaneLaw s) : LaneLaw t := by
  intro l
  rw [h l]
  exact hs l

theorem lane_handOver (x : Txn) (o : TxnOutcome) (s : State) (m : LaneNo) :
    (handOver x o s).lane m = s.lane m := by
  rcases handOver_cases x o s with ⟨n, _, _, h⟩ | ⟨n, _, _, h⟩ | ⟨n, _, _, _, h⟩ | ⟨k, w, _, _, h⟩ | ⟨k, _, _, h⟩ <;>
    simp [h]

theorem one_le_written_minDeselect (w : Word) (L : Lane) : 1 ≤ (writeLaneConfig w L).minDeselect.toNat := by
  unfold writeLaneConfig
  dsimp only
  split
  · decide
  · next h => exact Nat.one_le_iff_ne_zero.2 fun h0 => h (BitVec.eq_of_toNat_eq h0)

theorem Moves.keeps_laneLaw (h : Moves s t) (hs : LaneLaw s) : LaneLaw t := by
  cases h with
  | offered n hw hq =>
    refine LaneLaw.modLane (s := s.modRun n _) (fun hL => ?_) hs
    obtain ⟨_, hL⟩ := hL
    exact ⟨by simpa using hq, hL⟩
  | takesSlot l k hm hp hw =>
    refine (laneLaw_iff _).2 fun m => ?_
    rw [lane_takeSlot]
    split
    · obtain ⟨hq, _, _, _, _, hd⟩ := hs l
      exact .begun hq (Nat.min_le_left ..) hm hd
    · exact hs m
  | takesEntry l n q hm hp hq =>
    refine (laneLaw_iff _).2 fun m => ?_
    rw [lane_takeEntry]
    split
    · obtain ⟨hlen, _, _, _, _, hd⟩ := hs l
      rw [hq] at hlen
      exact .begun ((Nat.le_succ _).trans hlen) (Nat.zero_le _) hm hd
    · exact hs m
  | stopsScan =>
    intro l
    have hempty : (({ s with lanes := mapTable (fun L => { L with queue := [] }) s.lanes }.mapRuns
        fun e => unqueue e.run).lane l) = { s.lane l with queue := [] } := getElem_mapTable ..
    rw [hempty]
    obtain ⟨_, hL⟩ := hs l
    exact ⟨Nat.zero_le _, hL⟩
  | stopsQueued n hq =>
    refine LaneLaw.congr (lane_reachOff _ n) (LaneLaw.modLane (fun hL => ?_) hs)
    obtain ⟨hlen, hL⟩ := hL
    exact ⟨(List.length_erase_le ..).trans hlen, hL⟩
  | holds l hm hp =>
    refine LaneLaw.modLane (fun hL => ?_) hs
    obtain ⟨hq, hk, hidle, _, hL⟩ := hL
    exact ⟨hq, hk, hidle, fun _ => hp, hL⟩
  | holdsLater l hm hf =>
    refine LaneLaw.congr (lane_withFlight _ _) (LaneLaw.modLane (fun hL => ?_) hs)
    obtain ⟨hq, hk, hidle, _, hL⟩ := hL
    exact ⟨hq, hk, hidle, by simp, hL⟩
  | releases l hm =>
    refine LaneLaw.modLane (fun hL => ?_) hs
    obtain ⟨hq, hk, hidle, _, hL⟩ := hL
    exact ⟨hq, hk, hidle, by simp, hL⟩
  | holdsAtLast l hm hp =>
    refine LaneLaw.congr (lane_completeFlight _ _ _) (LaneLaw.modLane (fun hL => ?_) hs)
    obtain ⟨hq, hk, hidle, _, hL⟩ := hL
    exact ⟨hq, hk, hidle, fun _ => hp, hL⟩
  | clears l hi hf =>
    refine LaneLaw.congr (s := s.modLane l clearLane) (fun _ => rfl) (LaneLaw.modLane (fun hL => ?_) hs)
    obtain ⟨_, _, _, _, _, hd⟩ := hL
    exact .of_idle (Nat.zero_le _) (Nat.zero_le _) rfl rfl hd
  | withdraws k hk => exact hs.congr fun l => by simp [cancelQueued]
  | finishes l x o ht hi => exact (LaneLaw.modLane (.released hi) hs).congr (lane_handOver x o _)
  | _ => exact hs

theorem Passes.keeps_laneLaw (h : Passes s t) (hs : LaneLaw s) : LaneLaw t := by
  cases h with
  | clocks =>
    intro l
    have hclock : ({ s with lanes := mapTable clockLane s.lanes } : State).lane l = clockLane (s.lane l) :=
      getElem_mapTable ..
    rw [hclock]
    exact hs l
  | goesOn l f h => exact LaneLaw.modLane h.laneBounds hs
  | rests l hp =>
    refine LaneLaw.modLane (fun hL => ?_) hs
    obtain ⟨hq, hk, _, _, _, hd⟩ := hL
    exact .of_idle hq hk rfl rfl hd
  | writesLane l w =>
    refine LaneLaw.modLane (fun hL => ?_) hs
    obtain ⟨hq, hk, hidle, hheld, hend, _⟩ := hL
    exact ⟨hq, hk, hidle, hheld, hend, one_le_written_minDeselect w _⟩
  | _ => exact hs

theorem Event.keeps_laneLaw (h : Event s t) (hs : LaneLaw s) : LaneLaw t := by
  cases h with
  | other h => exact hs.congr (lane_congr h.lanes)
  | passes h => exact h.keeps_laneLaw hs
  | moves h => exact h.keeps_laneLaw hs
  | reports h => exact hs.congr h.lane
  | powersOn =>
    refine (laneLaw_iff _).2 fun l => ?_
    have hlane : ({ State.powerOn with pending := s.pending, freeCount := s.freeCount } : State).lane l =
        Lane.powerOn := Vector.getElem_replicate ..
    rw [hlane]
    exact .of_idle (Nat.zero_le _) (Nat.zero_le _) rfl rfl (by decide)
  | softResets arg =>
    refine (laneLaw_iff _).2 fun l => ?_
    have hlane : (softReset arg s).lane l = softResetLane (s.lane l) := getElem_mapTable ..
    rw [hlane]
    obtain ⟨_, _, _, _, _, hd⟩ := hs l
    exact .of_idle (Nat.zero_le _) (Nat.zero_le _) rfl rfl hd

/-! ### Profiles in use -/

theorem UsedValidLaw.congr (h : ∀ p, t.profile p = s.profile p) (hs : UsedValidLaw s) : UsedValidLaw t := by
  intro p
  rw [h p]
  exact hs p

theorem UsedValidLaw.raiseUse {p : ProfileNo} (hv : (s.profile p).valid = true) (hs : UsedValidLaw s) :
    UsedValidLaw (raiseUse p s) := by
  intro q
  rw [profile_raiseUse]
  split
  · exact fun _ => hv
  · exact hs q

theorem UsedValidLaw.dropUse {p : ProfileNo} (hs : UsedValidLaw s) : UsedValidLaw (dropUse p s) := by
  intro q
  rw [profile_dropUse]
  split
  · exact fun h => hs p (h.trans_le (Nat.sub_le ..))
  · exact hs q

theorem UsedValidLaw.handOver {x : Txn} {o : TxnOutcome} (hs : UsedValidLaw s) :
    UsedValidLaw (handOver x o s) := by
  rcases handOver_cases x o s with ⟨n, _, _, h⟩ | ⟨n, _, _, h⟩ | ⟨n, _, _, _, h⟩ | ⟨k, w, _, _, h⟩ | ⟨k, _, _, h⟩
  · rw [h]; exact UsedValidLaw.congr (profile_completeFlight _ _ _) (UsedValidLaw.dropUse (s := s.modRun n _) hs)
  · rw [h]; exact hs
  · rw [h]; exact hs
  · rw [h]
    refine UsedValidLaw.congr (fun p => ?_)
      (UsedValidLaw.dropUse (s := s.setSlot k (finished o w (s.slot k))) (p := (s.slot k).req.profile) hs)
    rw [profile_completeFlight, profile_notifyDirect]
  · rw [h]; exact UsedValidLaw.congr (profile_completeFlight _ _ _) hs

/-- A configuration that passes its test names a valid profile (R15). -/
theorem valid_of_entry_valid {c : EntryConfig} {p : Profile} (h : c.valid p = true) : p.valid = true := by
  unfold EntryConfig.valid at h
  simp only [Bool.and_eq_true] at h
  tauto

theorem useCount_writeProfileConfig (i : Nat) (w : Word) (p : Profile) :
    (writeProfileConfig i w p).useCount = p.useCount := by
  unfold writeProfileConfig
  split <;> rfl

theorem Moves.keeps_usedValidLaw (h : Moves s t) (hs : UsedValidLaw s) : UsedValidLaw t := by
  cases h with
  | enables n hoff hv => exact UsedValidLaw.raiseUse (s := s.modRun n _) (valid_of_entry_valid hv) hs
  | stopsWaiting n hw => exact UsedValidLaw.dropUse (s := s.modRun n _) hs
  | stopsQueued n hq => exact UsedValidLaw.dropUse (s := (s.modLane _ _).modRun n _) hs
  | holdsAtLast l hm hp => exact UsedValidLaw.congr (profile_completeFlight _ _ _) hs
  | submits k hfree hv =>
    exact UsedValidLaw.raiseUse (s := { s.setSlot k _ with direct := _ }) hv hs
  | withdraws k hq =>
    exact UsedValidLaw.congr (profile_notifyDirect _ _) (UsedValidLaw.dropUse (s := { s with direct := _ }) hs)
  | finishes l x o ht hi => exact UsedValidLaw.handOver (s := s.modLane l released) hs
  | _ => exact hs

theorem Passes.keeps_usedValidLaw (h : Passes s t) (hs : UsedValidLaw s) : UsedValidLaw t := by
  cases h with
  | writesProfile p i w hu =>
    intro q
    rw [profile_setProfile]
    split
    · rw [useCount_writeProfileConfig, hu]; exact fun h => absurd h (Nat.lt_irrefl 0)
    · exact hs q
  | _ => exact hs

theorem Event.keeps_usedValidLaw (h : Event s t) (hs : UsedValidLaw s) : UsedValidLaw t := by
  cases h with
  | other h => exact hs.congr (profile_congr h.profiles)
  | passes h => exact h.keeps_usedValidLaw hs
  | moves h => exact h.keeps_usedValidLaw hs
  | reports h => exact hs.congr h.profile
  | powersOn =>
    intro p hp
    simp [State.profile, State.powerOn, Profile.powerOn] at hp
  | softResets arg =>
    intro p hp
    simp [State.profile, softReset, getElem_mapTable] at hp

/-- Settles O56: three laws, each kept by every elementary event. -/
theorem stepKeepsTheBounds : Obligations.StepKeepsTheBounds :=
  fun _ _ h =>
    ⟨step_keeps Event.keeps_laneLaw (fun _ _ h => h) h, step_keeps Event.keeps_counterLaw (fun _ _ h => h) h,
      step_keeps Event.keeps_usedValidLaw (fun _ _ h => h) h⟩

end Sys2Proof.Machine
end

section
/-! SUPPORT. Places: which entries and slots wait, run and own a transaction, and the law of the waiting lists. -/

namespace Sys2Proof.Machine

variable {s t : State}

/-! ### Places -/

/-- The entry waits in the queue of the lane (R9, R116). -/
def Entry.WaitsOn (l : LaneNo) (e : Entry) : Prop := e.run.state = .queued ∧ e.cfg.lane = l

/-- The entry runs, or is stopping, on the lane (R9). -/
def Entry.RunsOn (l : LaneNo) (e : Entry) : Prop :=
  (e.run.state = .active ∨ e.run.state = .stopping) ∧ e.cfg.lane = l

/-- The slot runs on the lane (R145). -/
def Slot.RunsOn (l : LaneNo) (x : Slot) : Prop := x.state = .running ∧ x.req.lane = l

/-- The transaction in flight on the lane has this owner (R109). -/
def Lane.Owns (L : Lane) (o : Owner) : Prop := L.inFlight = true ∧ L.txn.map Txn.owner = some o

/-- A property of the members of a table that holds of one as before, the others being as they were. -/
theorem iff_of_only {ι α : Type} {a b : ι → α} (Q : α → Prop) (n : ι) (hn : Q (a n) ↔ Q (b n))
    (hm : ∀ m, m ≠ n → a m = b m) (m : ι) : Q (a m) ↔ Q (b m) := by
  by_cases h : m = n
  · subst h; exact hn
  · rw [hm m h]

theorem eq_of_only {ι α β : Type} {a b : ι → α} (g : α → β) (n : ι) (hn : g (a n) = g (b n))
    (hm : ∀ m, m ≠ n → a m = b m) (m : ι) : g (a m) = g (b m) := by
  by_cases h : m = n
  · subst h; exact hn
  · rw [hm m h]

/-! ### The same places -/

/-- An entry keeps its STATE, and its configuration too while it is in service (R21). -/
def SameEntry (e e' : Entry) : Prop :=
  e'.run.state = e.run.state ∧ (e.run.state ≠ .off → e'.cfg = e.cfg)

/-- A slot keeps its STATE, and its request too while it is in use (R144). -/
def SameSlot (x x' : Slot) : Prop := x'.state = x.state ∧ (x.state ≠ .free → x'.req = x.req)

/-- Every entry, slot, lane, list and USE_COUNT keeps what the laws of places speak of. -/
structure SamePlaces (s t : State) : Prop where
  entry : ∀ n, SameEntry (s.entry n) (t.entry n)
  slot : ∀ k, SameSlot (s.slot k) (t.slot k)
  queue : ∀ l, (t.lane l).queue = (s.lane l).queue
  mode : ∀ l, (t.lane l).mode = (s.lane l).mode
  owns : ∀ l o, (t.lane l).Owns o ↔ (s.lane l).Owns o
  waiting : t.direct.waiting = s.direct.waiting
  useCount : ∀ p, (t.profile p).useCount = (s.profile p).useCount
  inFlight : t.cmd.inFlight = s.cmd.inFlight

theorem SameEntry.refl (e : Entry) : SameEntry e e := ⟨rfl, fun _ => rfl⟩

theorem SameEntry.of_run {e : Entry} {r : EntryRun} (h : r.state = e.run.state) : SameEntry e { e with run := r } :=
  ⟨h, fun _ => rfl⟩

theorem SameSlot.refl (x : Slot) : SameSlot x x := ⟨rfl, fun _ => rfl⟩

theorem SamePlaces.refl (s : State) : SamePlaces s s :=
  ⟨fun _ => .refl _, fun _ => .refl _, fun _ => rfl, fun _ => rfl, fun _ _ => Iff.rfl, rfl, fun _ => rfl, rfl⟩

/-- Changes of the entries alone. -/
theorem SamePlaces.of_entries (hf : t = { s with entries := t.entries })
    (h : ∀ n, SameEntry (s.entry n) (t.entry n)) : SamePlaces s t := by
  have hrest : SamePlaces s { s with entries := t.entries } := { SamePlaces.refl s with entry := h }
  rw [hf]
  exact hrest

/-- Changes of one lane alone. -/
theorem SamePlaces.of_lane {l : LaneNo} {f : Lane → Lane} (hq : (f (s.lane l)).queue = (s.lane l).queue)
    (hm : (f (s.lane l)).mode = (s.lane l).mode) (ho : ∀ o, (f (s.lane l)).Owns o ↔ (s.lane l).Owns o) :
    SamePlaces s (s.modLane l f) :=
  { SamePlaces.refl s with
    queue := eq_of_only Lane.queue l (by simpa using hq) fun m h => by simp [Ne.symm h]
    mode := eq_of_only Lane.mode l (by simpa using hm) fun m h => by simp [Ne.symm h]
    owns := fun m o => iff_of_only (Lane.Owns · o) l (by simpa using ho o) (fun m h => by simp [Ne.symm h]) m }

theorem GoesOn.owns_iff {L L' : Lane} (h : GoesOn L L') (o : Owner) : L'.Owns o ↔ L.Owns o := by
  simp only [Lane.Owns, h.goes, h.flying, h.owner]

theorem not_owns_of_not_inFlight {L : Lane} (h : L.inFlight = false) (o : Owner) : ¬L.Owns o := by
  simp [Lane.Owns, h]

theorem Passes.samePlaces (h : Passes s t) : SamePlaces s t := by
  cases h with
  | skipped n =>
    refine .of_entries rfl fun m => ?_
    rw [entry_modRun]
    split
    · next hm => subst hm; exact .of_run rfl
    · exact .refl _
  | counts =>
    refine .of_entries rfl fun m => ?_
    rw [countEntries, entry_mapRuns]
    refine .of_run ?_
    split <;> rfl
  | clocks =>
    have hclock : ∀ l, ({ s with lanes := mapTable clockLane s.lanes } : State).lane l = clockLane (s.lane l) :=
      fun l => getElem_mapTable ..
    refine { SamePlaces.refl s with queue := fun l => ?_, mode := fun l => ?_, owns := fun l o => ?_ }
    · rw [hclock]; rfl
    · rw [hclock]; rfl
    · rw [hclock]; rfl
  | goesOn l f h => exact .of_lane h.queue h.mode h.owns_iff
  | rests l hp =>
    refine .of_lane rfl rfl fun o => iff_of_false ?_ ?_
    · exact not_owns_of_not_inFlight rfl o
    · exact not_owns_of_not_inFlight (by simp [Lane.inFlight, hp]) o
  | writesEntry n i w hs =>
    refine .of_entries rfl fun m => ?_
    rw [entry_setEntry]
    split
    · next hm => subst hm; exact ⟨rfl, fun hne => absurd hs hne⟩
    · exact .refl _
  | writesProfile p i w hu =>
    refine { SamePlaces.refl s with useCount := fun q => ?_ }
    rw [profile_setProfile]
    split
    · next hq => subst hq; exact useCount_writeProfileConfig i w _
    · rfl
  | writesLane l w => exact .of_lane rfl rfl fun _ => Iff.rfl
  | writesSlot k i w hs =>
    refine { SamePlaces.refl s with slot := fun j => ?_ }
    rw [slot_setSlot]
    split
    · next hj => subst hj; exact ⟨rfl, fun hne => absurd hs hne⟩
    · exact .refl _

theorem Reports.samePlaces (h : Reports s t) : SamePlaces s t where
  entry n := ⟨(h.entry n).2.state, fun _ => (h.entry n).1⟩
  slot k := by rw [h.slot]; exact .refl _
  queue l := by rw [h.lane]
  mode l := by rw [h.lane]
  owns l o := by rw [h.lane]
  waiting := by rw [h.direct]
  useCount p := by rw [h.profile]
  inFlight := by rw [h.cmd]

theorem SameBlocks.samePlaces (h : SameBlocks s t) : SamePlaces s t where
  entry n := by rw [entry_congr h.entries]; exact .refl _
  slot k := by rw [slot_congr h.direct]; exact .refl _
  queue l := by rw [lane_congr h.lanes]
  mode l := by rw [lane_congr h.lanes]
  owns l o := by rw [lane_congr h.lanes]
  waiting := by rw [h.direct]
  useCount p := by rw [profile_congr h.profiles]
  inFlight := h.inFlight

theorem SameEntry.waitsOn {e e' : Entry} (h : SameEntry e e') (l : LaneNo) : e'.WaitsOn l ↔ e.WaitsOn l := by
  unfold Entry.WaitsOn
  rw [h.1]
  refine and_congr_right fun hq => ?_
  rw [h.2 (by simp [hq])]

theorem SameEntry.runsOn {e e' : Entry} (h : SameEntry e e') (l : LaneNo) : e'.RunsOn l ↔ e.RunsOn l := by
  unfold Entry.RunsOn
  rw [h.1]
  refine and_congr_right fun hr => ?_
  rw [h.2 (by rcases hr with hr | hr <;> simp [hr])]

theorem SameSlot.runsOn {x x' : Slot} (h : SameSlot x x') (l : LaneNo) : x'.RunsOn l ↔ x.RunsOn l := by
  unfold Slot.RunsOn
  rw [h.1]
  refine and_congr_right fun hr => ?_
  rw [h.2 (by simp [hr])]

/-! ### Tables read after a move -/

/-- The state of a slot at its end (R150). -/
theorem finished_final (o : TxnOutcome) (w : List Long) (x : Slot) :
    (finished o w x).state = .done ∨ (finished o w x).state = .failed ∨ (finished o w x).state = .cancelled := by
  cases o <;> simp [finished, slotEnd]

@[simp] theorem req_finished (o : TxnOutcome) (w : List Long) (x : Slot) : (finished o w x).req = x.req := rfl

@[simp] theorem slot_submitSlot (k j : SlotNo) (s : State) :
    (submitSlot k s).slot j =
      if k = j then
        { s.slot k with
          state := .queued, cause := .none, doneCount := 0, order := s.direct.nextOrder
          result := Vector.replicate 8 0 }
      else s.slot j := by
  simp [submitSlot]

@[simp] theorem waiting_submitSlot (k : SlotNo) (s : State) :
    (submitSlot k s).direct.waiting = s.direct.waiting ++ [k] := rfl

@[simp] theorem entry_submitSlot (k : SlotNo) (s : State) (n : EntryNo) : (submitSlot k s).entry n = s.entry n := rfl
@[simp] theorem lane_submitSlot (k : SlotNo) (s : State) (l : LaneNo) : (submitSlot k s).lane l = s.lane l := rfl

@[simp] theorem profile_submitSlot (k : SlotNo) (s : State) (p : ProfileNo) :
    (submitSlot k s).profile p = (raiseUse (s.slot k).req.profile s).profile p := rfl

@[simp] theorem slot_cancelQueued (k j : SlotNo) (s : State) :
    (cancelQueued k s).slot j = if k = j then { s.slot k with state := .cancelled } else s.slot j := by
  simp [cancelQueued]

@[simp] theorem waiting_cancelQueued (k : SlotNo) (s : State) :
    (cancelQueued k s).direct.waiting = s.direct.waiting.erase k := by
  simp only [cancelQueued, direct_notifyDirect, dropUse_direct]; rfl

@[simp] theorem entry_cancelQueued (k : SlotNo) (s : State) (n : EntryNo) :
    (cancelQueued k s).entry n = s.entry n := by
  simp [cancelQueued]

@[simp] theorem lane_cancelQueued (k : SlotNo) (s : State) (l : LaneNo) :
    (cancelQueued k s).lane l = s.lane l := by
  simp [cancelQueued]

@[simp] theorem profile_cancelQueued (k : SlotNo) (s : State) (p : ProfileNo) :
    (cancelQueued k s).profile p = (dropUse (s.slot k).req.profile s).profile p :=
  profile_notifyDirect _ _ p

/-! ### The law of the waiting lists -/

theorem MembershipLaw.congr (h : MembershipLaw s) (hq : ∀ l, (t.lane l).queue = (s.lane l).queue)
    (he : ∀ n l, (t.entry n).WaitsOn l ↔ (s.entry n).WaitsOn l) (hw : t.direct.waiting = s.direct.waiting)
    (hk : ∀ k, (t.slot k).state = .queued ↔ (s.slot k).state = .queued) : MembershipLaw t := by
  obtain ⟨hnodup, hmem, hwnodup, hwmem⟩ := h
  refine ⟨fun l => hq l ▸ hnodup l, fun l n => ?_, hw ▸ hwnodup, fun k => ?_⟩
  · rw [hq l]; exact (hmem l n).trans (he n l).symm
  · rw [hw]; exact (hwmem k).trans (hk k).symm

theorem MembershipLaw.of_samePlaces (h : SamePlaces s t) (hs : MembershipLaw s) : MembershipLaw t :=
  hs.congr h.queue (fun n l => (h.entry n).waitsOn l) h.waiting fun k => by rw [(h.slot k).1]

/-- Nobody waits. -/
theorem MembershipLaw.of_none (hq : ∀ l, (t.lane l).queue = []) (he : ∀ n, (t.entry n).run.state ≠ .queued)
    (hw : t.direct.waiting = []) (hk : ∀ k, (t.slot k).state ≠ .queued) : MembershipLaw t :=
  ⟨fun l => by simp [hq l], fun l n => by simp [hq l, he n], by simp [hw], fun k => by simp [hw, hk k]⟩

end Sys2Proof.Machine
end

section
/-! SUPPORT. The waiting lists and the use counts: every elementary event keeps their laws. -/

namespace Sys2Proof.Machine

variable {s t : State}

/-! ### The law of the waiting lists -/

theorem not_waitsOn {e : Entry} (h : e.run.state ≠ .queued) (l : LaneNo) : ¬e.WaitsOn l := fun hw => h hw.1

/-- The law where one entry alone goes from one STATE to another, neither of them QUEUED. -/
theorem MembershipLaw.of_entry (n : EntryNo) (h : MembershipLaw s) (hn : (s.entry n).run.state ≠ .queued)
    (hn' : (t.entry n).run.state ≠ .queued) (hm : ∀ m, m ≠ n → t.entry m = s.entry m)
    (hl : ∀ l, (t.lane l).queue = (s.lane l).queue) (hd : t.direct = s.direct) : MembershipLaw t :=
  h.congr hl (fun m l => iff_of_only (Entry.WaitsOn l) n (iff_of_false (not_waitsOn hn' l) (not_waitsOn hn l)) hm m)
    (by rw [hd]) fun k => by rw [slot_congr hd]

/-- The law where one slot alone goes from one STATE to another, neither of them QUEUED. -/
theorem MembershipLaw.of_slot (k : SlotNo) (h : MembershipLaw s) (hk : (s.slot k).state ≠ .queued)
    (hk' : (t.slot k).state ≠ .queued) (hj : ∀ j, j ≠ k → t.slot j = s.slot j)
    (hl : ∀ l, (t.lane l).queue = (s.lane l).queue) (he : ∀ n, t.entry n = s.entry n)
    (hw : t.direct.waiting = s.direct.waiting) : MembershipLaw t :=
  h.congr hl (fun n _ => by rw [he n]) hw
    (iff_of_only (fun x : Slot => x.state = .queued) k (iff_of_false hk' hk) hj)

/-- The law where one lane alone changes, and not its queue. -/
theorem MembershipLaw.of_lane (l : LaneNo) (h : MembershipLaw s) (hq : (t.lane l).queue = (s.lane l).queue)
    (hm : ∀ m, m ≠ l → t.lane m = s.lane m) (he : ∀ n, t.entry n = s.entry n) (hd : t.direct = s.direct) :
    MembershipLaw t :=
  h.congr (eq_of_only Lane.queue l hq hm) (fun n _ => by rw [he n]) (by rw [hd]) fun k => by rw [slot_congr hd]

/-- An entry offered to its lane queue goes to the tail of it (R88, R116). -/
theorem MembershipLaw.offered {n : EntryNo} {r : EntryRun} (hw : (s.entry n).run.state ≠ .queued)
    (hr : r.state = .queued) (h : MembershipLaw s) :
    MembershipLaw
      ((s.modRun n fun _ => r).modLane (s.entry n).cfg.lane fun L => { L with queue := L.queue ++ [n] }) := by
  obtain ⟨hnodup, hmem, hwait⟩ := h
  have hnot : n ∉ (s.lane (s.entry n).cfg.lane).queue := fun hin => hw ((hmem _ _).1 hin).1
  refine ⟨fun l => ?_, fun l m => ?_, hwait⟩
  · rw [lane_modLane]
    split
    · simpa using (hnodup _).concat hnot
    · exact hnodup l
  · rw [lane_modLane, entry_modLane_other, entry_modRun]
    by_cases hl : (s.entry n).cfg.lane = l
    · subst hl
      by_cases hm : n = m
      · subst hm; simp [hr]
      · simpa [hm, Ne.symm hm] using hmem _ m
    · by_cases hm : n = m
      · subst hm
        have hout : n ∉ (s.lane l).queue := fun hin => hw ((hmem _ _).1 hin).1
        simpa [hl, hr] using hout
      · simpa [hl, hm] using hmem l m

/-- The head of a lane queue is taken (R117). -/
theorem MembershipLaw.takesEntry {l : LaneNo} {n : EntryNo} {q : List EntryNo} (hq : (s.lane l).queue = n :: q)
    (h : MembershipLaw s) : MembershipLaw (takeEntry l n q s) := by
  obtain ⟨hnodup, hmem, hwait⟩ := h
  have hnq : (n :: q).Nodup := hq ▸ hnodup l
  have hn := (hmem l n).1 (by simp [hq])
  refine ⟨fun m => ?_, fun m k => ?_, hwait⟩
  · rw [lane_takeEntry]
    split
    · exact hnq.of_cons
    · exact hnodup m
  · rw [lane_takeEntry, entry_takeEntry]
    by_cases hl : l = m
    · subst hl
      by_cases hk : n = k
      · subst hk; simpa [begun] using (List.nodup_cons.1 hnq).1
      · have hk' := hmem l k
        rw [hq] at hk'
        simpa [hk, Ne.symm hk, begun] using hk'
    · by_cases hk : n = k
      · subst hk
        have hout : n ∉ (s.lane m).queue := fun hin => hl (hn.2.symm.trans ((hmem m n).1 hin).2)
        simpa [hl] using hout
      · simpa [hl, hk] using hmem m k

/-- A slot of the submission list leaves it (R117, R151). -/
theorem MembershipLaw.leavesList (k : SlotNo) (h : MembershipLaw s) (hq : ∀ l, (t.lane l).queue = (s.lane l).queue)
    (he : ∀ n, t.entry n = s.entry n) (hw : t.direct.waiting = s.direct.waiting.erase k)
    (hk : (t.slot k).state ≠ .queued) (hj : ∀ j, j ≠ k → t.slot j = s.slot j) :
    MembershipLaw t := by
  obtain ⟨hnodup, hmem, hwnodup, hwmem⟩ := h
  refine ⟨fun l => hq l ▸ hnodup l, fun l n => ?_, hw ▸ hwnodup.erase k, fun j => ?_⟩
  · rw [hq l, he n]; exact hmem l n
  · rw [hw, hwnodup.mem_erase_iff]
    by_cases hjk : j = k
    · subst hjk; simp [hk]
    · rw [hj j hjk]; simpa [hjk] using hwmem j

/-- A FREE slot joins the submission list at its tail (R147). -/
theorem MembershipLaw.submits {k : SlotNo} (hs : (s.slot k).state = .free) (h : MembershipLaw s) :
    MembershipLaw (submitSlot k s) := by
  obtain ⟨hnodup, hmem, hwnodup, hwmem⟩ := h
  have hnot : k ∉ s.direct.waiting := fun hin => absurd ((hwmem k).1 hin) (by simp [hs])
  refine ⟨hnodup, hmem, ?_, fun j => ?_⟩
  · rw [waiting_submitSlot]
    simpa using hwnodup.concat hnot
  · rw [waiting_submitSlot, slot_submitSlot]
    by_cases hj : k = j
    · subst hj; simp
    · simpa [hj, Ne.symm hj] using hwmem j

/-- The queue of one lane is emptied and its entries go to WAIT (R129). -/
theorem MembershipLaw.clears {l : LaneNo} (h : MembershipLaw s) :
    MembershipLaw ((s.modLane l clearLane).mapRuns fun e => if e.cfg.lane = l then unqueue e.run else e.run) := by
  obtain ⟨hnodup, hmem, hwait⟩ := h
  refine ⟨fun m => ?_, fun m n => ?_, hwait⟩
  · rw [lane_mapRuns_other, lane_modLane]
    split
    · exact List.nodup_nil
    · exact hnodup m
  · rw [lane_mapRuns_other, lane_modLane, entry_mapRuns, entry_modLane_other]
    by_cases hm : l = m
    · subst hm
      by_cases hl : (s.entry n).cfg.lane = l
      · by_cases hq : (s.entry n).run.state = .queued <;> simp [clearLane, unqueue, hl, hq]
      · simp [clearLane, hl]
    · by_cases hl : (s.entry n).cfg.lane = l
      · have hlm : (s.entry n).cfg.lane ≠ m := fun h => hm (hl.symm.trans h)
        simpa [hm, hlm] using fun hin => hlm ((hmem m n).1 hin).2
      · simpa [hm, hl] using hmem m n

/-- An entry leaves its lane queue from wherever it stands (R17). -/
theorem MembershipLaw.stopsQueued {n : EntryNo} (h : MembershipLaw s) :
    MembershipLaw (reachOff n (s.modLane (s.entry n).cfg.lane fun L => { L with queue := L.queue.erase n })) := by
  obtain ⟨hnodup, hmem, hwait⟩ := h
  refine ⟨fun m => ?_, fun m k => ?_, hwait⟩
  · rw [lane_reachOff, lane_modLane]
    split
    · exact (hnodup _).erase n
    · exact hnodup m
  · rw [lane_reachOff, lane_modLane, entry_reachOff, entry_modLane_other]
    by_cases hm : (s.entry n).cfg.lane = m
    · subst hm
      by_cases hk : n = k
      · subst hk; simp [(hnodup _).mem_erase_iff]
      · simpa [hk, (hnodup _).mem_erase_iff, Ne.symm hk] using hmem _ k
    · by_cases hk : n = k
      · subst hk
        simpa [hm] using fun hin => hm ((hmem m n).1 hin).2
      · simpa [hm, hk] using hmem m k

/-- Every lane queue is emptied and its entries go to WAIT (R82). -/
theorem MembershipLaw.stopsScan (h : MembershipLaw s) :
    MembershipLaw
      ({ s with lanes := mapTable (fun L => { L with queue := [] }) s.lanes }.mapRuns fun e => unqueue e.run) := by
  obtain ⟨_, _, hwait⟩ := h
  have hempty : ∀ l, (({ s with lanes := mapTable (fun L => { L with queue := [] }) s.lanes }.mapRuns
      fun e => unqueue e.run).lane l).queue = [] := fun l => by simp [State.lane, getElem_mapTable]
  refine ⟨fun l => (hempty l).symm ▸ List.nodup_nil, fun l n => ?_, hwait⟩
  rw [hempty, entry_mapRuns]
  by_cases hq : (s.entry n).run.state = .queued <;> simp [unqueue, hq]

theorem MembershipLaw.handOver {x : Txn} {o : TxnOutcome} (hs : MembershipLaw s) :
    MembershipLaw (handOver x o s) := by
  rcases handOver_cases x o s with
    ⟨n, _, hn, h⟩ | ⟨n, _, hn, h⟩ | ⟨n, _, _, _, h⟩ | ⟨k, w, _, hk, h⟩ | ⟨k, _, _, h⟩
  · rw [h]
    exact hs.of_entry n (by simp [hn]) (by simp) (fun m hm => by simp [Ne.symm hm]) (fun l => by simp) (by simp)
  · rw [h]
    exact hs.of_entry n (by simp [hn]) (by simp) (fun m hm => by simp [Ne.symm hm]) (fun l => by simp) (by simp)
  · rw [h]; exact hs
  · rw [h]
    refine hs.of_slot k (by simp [hk]) ?_ (fun j hj => by simp [Ne.symm hj]) (fun l => by simp) (fun n => by simp) ?_
    · rcases finished_final o w (s.slot k) with hf | hf | hf <;> simp [hf]
    · simp only [direct_completeFlight, direct_notifyDirect, dropUse_direct]; rfl
  · rw [h]; exact hs.congr (fun l => by simp) (fun n l => by simp) (by simp) fun j => by simp

theorem Moves.keeps_membershipLaw (h : Moves s t) (hs : MembershipLaw s) : MembershipLaw t := by
  cases h with
  | offered n hw hq => exact hs.offered (by simp [hw]) rfl
  | takesSlot l k hm hp hw =>
    refine hs.leavesList k (eq_of_only Lane.queue l ?_ fun m hm => ?_) (fun _ => rfl) rfl (by simp [slot_takeSlot])
      fun j hj => by simp [slot_takeSlot, Ne.symm hj]
    · simp [lane_takeSlot, begun]
    · simp [lane_takeSlot, Ne.symm hm]
  | takesEntry l n q hm hp hq => exact hs.takesEntry hq
  | stopsScan => exact hs.stopsScan
  | enables n hoff hv =>
    exact hs.of_entry n (by simp [hoff]) (by simp [enabledRun]) (fun m hm => by simp [Ne.symm hm]) (fun _ => rfl) rfl
  | stopsWaiting n hw =>
    exact hs.of_entry n (by simp [hw]) (by simp) (fun m hm => by simp [Ne.symm hm]) (fun _ => rfl) rfl
  | stopsQueued n hq => exact hs.stopsQueued
  | stopsActive n ha hf =>
    exact hs.of_entry n (by simp [ha]) (by simp) (fun m hm => by simp [Ne.symm hm]) (fun _ => rfl) rfl
  | holds l hm hp => exact hs.of_lane l (by simp) (fun m hm => by simp [Ne.symm hm]) (fun _ => rfl) rfl
  | holdsLater l hm hf => exact hs.of_lane l (by simp) (fun m hm => by simp [Ne.symm hm]) (fun _ => rfl) rfl
  | releases l hm => exact hs.of_lane l (by simp) (fun m hm => by simp [Ne.symm hm]) (fun _ => rfl) rfl
  | holdsAtLast l hm hp =>
    exact hs.of_lane l (by simp) (fun m hm => by simp [Ne.symm hm]) (fun _ => by simp) (by simp)
  | clears l hi hf => exact hs.clears
  | submits k hfree hv => exact hs.submits hfree
  | withdraws k hk =>
    exact hs.leavesList k (fun l => by simp) (fun n => by simp) (by simp) (by simp) fun j hj => by simp [Ne.symm hj]
  | cancelsRunning k hk hf => exact hs
  | frees k hk =>
    refine hs.of_slot k ?_ (by simp) (fun j hj => by simp [Ne.symm hj]) (fun _ => rfl) (fun _ => rfl) rfl
    rcases hk with hk | hk | hk <;> simp [hk]
  | finishes l x o ht hi =>
    refine MembershipLaw.handOver (s := s.modLane l released) ?_
    exact hs.of_lane l (by simp [released]) (fun m hm => by simp [Ne.symm hm]) (fun _ => rfl) rfl

theorem Event.keeps_membershipLaw (h : Event s t) (hs : MembershipLaw s) : MembershipLaw t := by
  cases h with
  | other h => exact hs.of_samePlaces h.samePlaces
  | reports h => exact hs.of_samePlaces h.samePlaces
  | passes h => exact hs.of_samePlaces h.samePlaces
  | moves h => exact h.keeps_membershipLaw hs
  | powersOn =>
    refine .of_none (fun l => ?_) (fun n => ?_) rfl fun k => ?_
    · simp [State.lane, State.powerOn, Lane.powerOn]
    · simp [State.entry, State.powerOn, EntryRun.powerOn]
    · simp [State.slot, State.powerOn, Slot.powerOn]
  | softResets arg =>
    refine .of_none (fun l => ?_) (fun n => ?_) rfl fun k => ?_
    · simp [State.lane, softReset, getElem_mapTable, softResetLane, Lane.powerOn]
    · simp [State.entry, softReset, getElem_mapTable, EntryRun.powerOn]
    · simp [State.slot, softReset, getElem_mapTable, softResetSlot, Slot.powerOn]

end Sys2Proof.Machine
end

section
/-! SUPPORT. Every USE_COUNT is the number of the users of its profile: the count as a sum over the tables, and the
law under every elementary event. -/

namespace Sys2Proof.Machine

variable {s t : State}

/-! ### Users counted -/

/-- An entry in service uses the profile it names (R105). -/
def Entry.uses (p : ProfileNo) (e : Entry) : Nat := if e.run.state ≠ .off ∧ e.cfg.profile = p then 1 else 0

/-- A slot that waits or runs uses the profile it names (R105). -/
def Slot.uses (p : ProfileNo) (x : Slot) : Nat :=
  if (x.state = .queued ∨ x.state = .running) ∧ x.req.profile = p then 1 else 0

theorem countP_eq_sum {α : Type} (q : α → Bool) (as : List α) :
    as.countP q = ∑ i : Fin as.length, if q as[i] then 1 else 0 := by
  induction as with
  | nil => rfl
  | cons a as ih =>
    rw [List.countP_cons, ih, add_comm]
    exact (Fin.sum_univ_succ fun i : Fin (as.length + 1) => if q (a :: as)[i] then 1 else 0).symm

theorem countP_table {α : Type} {n : Nat} (q : α → Bool) (v : Vector α n) :
    v.toList.countP q = ∑ i : Fin n, if q v[i] then 1 else 0 := by
  obtain ⟨⟨as⟩, rfl⟩ := v
  exact countP_eq_sum q as

theorem usersOf_eq (s : State) (p : ProfileNo) :
    usersOf s p = (∑ n, (s.entry n).uses p) + ∑ k, (s.slot k).uses p := by
  unfold usersOf
  rw [countP_table, countP_table]
  refine congrArg₂ (· + ·) (Finset.sum_congr rfl fun n _ => ?_) (Finset.sum_congr rfl fun k _ => ?_)
  · exact if_congr (by simp [State.entry]) rfl rfl
  · exact if_congr (by simp [State.slot]) rfl rfl

/-- A sum of which one term alone changes. -/
theorem sum_change {ι : Type} [Fintype ι] [DecidableEq ι] {f g : ι → Nat} (i : ι) (h : ∀ j, j ≠ i → g j = f j) :
    (∑ j, g j) + f i = (∑ j, f j) + g i := by
  have hrest : ∑ j ∈ Finset.univ.erase i, g j = ∑ j ∈ Finset.univ.erase i, f j :=
    Finset.sum_congr rfl fun j hj => h j (Finset.ne_of_mem_erase hj)
  rw [← Finset.add_sum_erase _ g (Finset.mem_univ i), ← Finset.add_sum_erase _ f (Finset.mem_univ i), hrest]
  omega

/-! ### The law -/

theorem UseLaw.congr (h : UseLaw s) (hu : ∀ p, (t.profile p).useCount = (s.profile p).useCount)
    (he : ∀ n p, (t.entry n).uses p = (s.entry n).uses p) (hk : ∀ k p, (t.slot k).uses p = (s.slot k).uses p) :
    UseLaw t := by
  intro p
  rw [hu p, h p, usersOf_eq, usersOf_eq]
  simp only [he, hk]

/-- One entry comes to use, or no longer uses, its profile, and its USE_COUNT follows. -/
theorem UseLaw.of_entry (n : EntryNo) (h : UseLaw s) (hm : ∀ m, m ≠ n → t.entry m = s.entry m)
    (hk : ∀ k, t.slot k = s.slot k)
    (hu : ∀ p, (t.profile p).useCount + (s.entry n).uses p = (s.profile p).useCount + (t.entry n).uses p) :
    UseLaw t := by
  intro p
  have hsum := sum_change (f := fun m => (s.entry m).uses p) (g := fun m => (t.entry m).uses p) n
    fun m hmn => by rw [hm m hmn]
  have hp := h p
  have hup := hu p
  rw [usersOf_eq] at hp ⊢
  simp only [hk]
  omega

/-- One slot comes to use, or no longer uses, its profile, and its USE_COUNT follows. -/
theorem UseLaw.of_slot (k : SlotNo) (h : UseLaw s) (hj : ∀ j, j ≠ k → t.slot j = s.slot j)
    (he : ∀ n, t.entry n = s.entry n)
    (hu : ∀ p, (t.profile p).useCount + (s.slot k).uses p = (s.profile p).useCount + (t.slot k).uses p) :
    UseLaw t := by
  intro p
  have hsum := sum_change (f := fun j => (s.slot j).uses p) (g := fun j => (t.slot j).uses p) k
    fun j hjk => by rw [hj j hjk]
  have hp := h p
  have hup := hu p
  rw [usersOf_eq] at hp ⊢
  simp only [he]
  omega

/-- A user is counted. -/
theorem UseLaw.entry_le (h : UseLaw s) (n : EntryNo) (p : ProfileNo) :
    (s.entry n).uses p ≤ (s.profile p).useCount := by
  rw [h p, usersOf_eq]
  exact (Finset.single_le_sum (f := fun m => (s.entry m).uses p) (fun _ _ => Nat.zero_le _)
    (Finset.mem_univ n)).trans (Nat.le_add_right ..)

theorem UseLaw.slot_le (h : UseLaw s) (k : SlotNo) (p : ProfileNo) :
    (s.slot k).uses p ≤ (s.profile p).useCount := by
  rw [h p, usersOf_eq]
  exact (Finset.single_le_sum (f := fun j => (s.slot j).uses p) (fun _ _ => Nat.zero_le _)
    (Finset.mem_univ k)).trans (Nat.le_add_left ..)

theorem SameEntry.uses {e e' : Entry} (h : SameEntry e e') (p : ProfileNo) : e'.uses p = e.uses p := by
  unfold Entry.uses
  rw [h.1]
  by_cases hoff : e.run.state = .off
  · simp [hoff]
  · rw [h.2 hoff]

theorem SameSlot.uses {x x' : Slot} (h : SameSlot x x') (p : ProfileNo) : x'.uses p = x.uses p := by
  unfold Slot.uses
  rw [h.1]
  by_cases hfree : x.state = .free
  · simp [hfree]
  · rw [h.2 hfree]

theorem UseLaw.of_samePlaces (h : SamePlaces s t) (hs : UseLaw s) : UseLaw t :=
  hs.congr h.useCount (fun n => (h.entry n).uses) fun k => (h.slot k).uses

/-- One entry goes from one STATE in service to another. -/
theorem UseLaw.stays (n : EntryNo) (h : UseLaw s) (hn : (s.entry n).run.state ≠ .off)
    (hn' : (t.entry n).run.state ≠ .off) (hc : (t.entry n).cfg = (s.entry n).cfg)
    (hm : ∀ m, m ≠ n → t.entry m = s.entry m) (hk : ∀ k, t.slot k = s.slot k)
    (hp : ∀ p, t.profile p = s.profile p) : UseLaw t :=
  h.of_entry n hm hk fun p => by simp [Entry.uses, hn, hn', hc, hp p]

/-- An entry in service reaches OFF (R17). -/
theorem UseLaw.reachOff (n : EntryNo) (h : UseLaw s) (hn : (s.entry n).run.state ≠ .off)
    (he : ∀ m, t.entry m = (reachOff n s).entry m) (hp : ∀ p, t.profile p = (Machine.reachOff n s).profile p)
    (hk : ∀ k, t.slot k = s.slot k) : UseLaw t := by
  refine h.of_entry n (fun m hm => by simp [he m, Ne.symm hm]) hk fun p => ?_
  have hle := h.entry_le n p
  rw [he n, hp p, entry_reachOff, profile_reachOff]
  by_cases hprofile : (s.entry n).cfg.profile = p
  · subst hprofile
    simp only [Entry.uses, hn, ne_eq, not_false_eq_true, and_self, if_true] at hle ⊢
    simp
    omega
  · simp [Entry.uses, hprofile]

/-- A slot that waited or ran is done with its profile (R105). -/
theorem UseLaw.slotEnds (k : SlotNo) (h : UseLaw s) (hs : (s.slot k).state = .queued ∨ (s.slot k).state = .running)
    (ht : (t.slot k).state ≠ .queued) (ht' : (t.slot k).state ≠ .running)
    (hj : ∀ j, j ≠ k → t.slot j = s.slot j) (he : ∀ n, t.entry n = s.entry n)
    (hp : ∀ p, t.profile p = (dropUse (s.slot k).req.profile s).profile p) : UseLaw t := by
  refine h.of_slot k hj he fun p => ?_
  have hle := h.slot_le k p
  rw [hp p, profile_dropUse]
  by_cases hprofile : (s.slot k).req.profile = p
  · subst hprofile
    simp only [Slot.uses, hs, ht, ht', and_self, if_true, or_self, false_and, if_false] at hle ⊢
    omega
  · simp [Slot.uses, hprofile, ht, ht']

theorem UseLaw.handOver {x : Txn} {o : TxnOutcome} (hs : UseLaw s) : UseLaw (handOver x o s) := by
  rcases handOver_cases x o s with
    ⟨n, _, hn, h⟩ | ⟨n, _, hn, h⟩ | ⟨n, _, _, _, h⟩ | ⟨k, w, _, hk, h⟩ | ⟨k, _, _, h⟩
  · rw [h]; exact hs.reachOff n (by simp [hn]) (fun m => by simp) (fun p => by simp) fun k => by simp
  · rw [h]
    exact hs.stays n (by simp [hn]) (by simp) (by simp) (fun m hm => by simp [Ne.symm hm]) (fun _ => rfl) fun _ => rfl
  · rw [h]; exact hs
  · rw [h]
    refine hs.slotEnds k (.inr hk) ?_ ?_ (fun j hj => by simp [Ne.symm hj]) (fun n => by simp) fun p => by simp
    all_goals rcases finished_final o w (s.slot k) with hf | hf | hf <;> simp [hf]
  · rw [h]; exact hs.congr (fun p => by simp) (fun n p => by simp) fun k p => by simp

theorem uses_unqueue (p : ProfileNo) (e : Entry) : ({ e with run := unqueue e.run } : Entry).uses p = e.uses p := by
  by_cases hq : e.run.state = .queued <;> simp [Entry.uses, unqueue, hq]

/-- A move keeps USE_COUNT the number of users; who the arbiter takes from a list was a user there. -/
theorem Moves.keeps_useLaw (h : Moves s t) (hmember : MembershipLaw s) (hs : UseLaw s) : UseLaw t := by
  cases h with
  | offered n hw hq =>
    exact hs.stays n (by simp [hw]) (by simp) (by simp) (fun m hm => by simp [Ne.symm hm]) (fun _ => rfl) fun _ => rfl
  | takesSlot l k hm hp hw =>
    have hk := (hmember.2.2.2 k).1 (waitingSlot_some s hw).1
    refine hs.congr (fun _ => rfl) (fun _ _ => rfl) fun j p => ?_
    rw [slot_takeSlot]
    split
    · next hj => subst hj; simp [Slot.uses, hk]
    · rfl
  | takesEntry l n q hm hp hq =>
    have hn := ((hmember.2.1 l n).1 (by simp [hq])).1
    exact hs.stays n (by simp [hn]) (by simp [entry_takeEntry]) (by simp [entry_takeEntry])
      (fun m hm => by simp [entry_takeEntry, Ne.symm hm]) (fun _ => rfl) fun _ => rfl
  | stopsScan =>
    refine hs.congr (fun _ => rfl) (fun n p => ?_) fun _ _ => rfl
    rw [entry_mapRuns]; exact uses_unqueue p _
  | enables n hoff hv =>
    refine hs.of_entry n (fun m hm => by simp [Ne.symm hm]) (fun _ => rfl) fun p => ?_
    by_cases hp : (s.entry n).cfg.profile = p
    · subst hp; simp [Entry.uses, hoff, enabledRun]
    · simp [Entry.uses, hp]
  | stopsWaiting n hw => exact hs.reachOff n (by simp [hw]) (fun _ => rfl) (fun _ => rfl) fun _ => rfl
  | stopsQueued n hq => exact hs.reachOff n (by simp [hq]) (fun _ => rfl) (fun _ => rfl) fun _ => rfl
  | stopsActive n ha hf =>
    exact hs.stays n (by simp [ha]) (by simp) (by simp) (fun m hm => by simp [Ne.symm hm]) (fun _ => rfl) fun _ => rfl
  | clears l hi hf =>
    refine hs.congr (fun _ => rfl) (fun n p => ?_) fun _ _ => rfl
    rw [entry_mapRuns]
    dsimp only
    split
    · exact uses_unqueue p _
    · rfl
  | submits k hfree hv =>
    refine hs.of_slot k (fun j hj => by simp [Ne.symm hj]) (fun _ => rfl) fun p => ?_
    by_cases hp : (s.slot k).req.profile = p
    · subst hp; simp [Slot.uses, hfree]
    · simp [Slot.uses, hp]
  | withdraws k hk =>
    exact hs.slotEnds k (.inl hk) (by simp) (by simp) (fun j hj => by simp [Ne.symm hj]) (fun n => by simp)
      fun p => by simp
  | frees k hk =>
    refine hs.of_slot k (fun j hj => by simp [Ne.symm hj]) (fun _ => rfl) fun p => ?_
    rcases hk with hk | hk | hk <;> simp [Slot.uses, hk]
  | holdsAtLast l hm hp => exact hs.congr (fun p => by simp) (fun n p => by simp) fun k p => by simp
  | finishes l x o ht hi => exact UseLaw.handOver (s := s.modLane l released) hs
  | _ => exact hs

/-- With nobody in service every USE_COUNT is 0. -/
theorem UseLaw.of_none (hu : ∀ p, (t.profile p).useCount = 0) (he : ∀ n, (t.entry n).run.state = .off)
    (hk : ∀ k, (t.slot k).state = .free) : UseLaw t := by
  intro p
  rw [hu p, usersOf_eq]
  simp [Entry.uses, Slot.uses, he, hk]

theorem Event.keeps_useLaw (h : Event s t) (hmember : MembershipLaw s) (hs : UseLaw s) : UseLaw t := by
  cases h with
  | other h => exact hs.of_samePlaces h.samePlaces
  | reports h => exact hs.of_samePlaces h.samePlaces
  | passes h => exact hs.of_samePlaces h.samePlaces
  | moves h => exact h.keeps_useLaw hmember hs
  | powersOn =>
    refine .of_none (fun p => ?_) (fun n => ?_) fun k => ?_
    · simp [State.profile, State.powerOn, Profile.powerOn]
    · simp [State.entry, State.powerOn, EntryRun.powerOn]
    · simp [State.slot, State.powerOn, Slot.powerOn]
  | softResets arg =>
    refine .of_none (fun p => ?_) (fun n => ?_) fun k => ?_
    · simp [State.profile, softReset, getElem_mapTable]
    · simp [State.entry, softReset, getElem_mapTable, EntryRun.powerOn]
    · simp [State.slot, softReset, getElem_mapTable, softResetSlot, Slot.powerOn]

/-- Settles O57: who leaves a waiting list leaves it with the change of its STATE, and each user that comes or goes is
one in its profile's count. -/
theorem stepKeepsMembershipAndUseCounts : Obligations.StepKeepsMembershipAndUseCounts :=
  fun _ _ hs h =>
    step_keeps (P := fun s => MembershipLaw s ∧ UseLaw s)
      (fun he ⟨hmember, huse⟩ => ⟨he.keeps_membershipLaw hmember, he.keeps_useLaw hmember huse⟩)
      (fun _ _ h => h) h hs

end Sys2Proof.Machine
end

section
/-! SUPPORT. The owners of the transactions in flight: every elementary event keeps their law. -/

namespace Sys2Proof.Machine

variable {s t : State}

/-! ### Owners -/

/-- The owner, entry or slot, runs on the lane. -/
def State.Runs (s : State) (l : LaneNo) : Owner → Prop
  | .entry n => (s.entry n).RunsOn l
  | .slot k => (s.slot k).RunsOn l

theorem ownerLaw_iff (s : State) : OwnerLaw s ↔ ∀ l o, s.Runs l o ↔ (s.lane l).Owns o := by
  refine forall_congr' fun l => ⟨fun ⟨he, hk⟩ o => ?_, fun h => ⟨fun n => h (.entry n), fun k => h (.slot k)⟩⟩
  cases o with
  | entry n => exact he n
  | slot k => exact hk k

theorem OwnerLaw.congr (h : OwnerLaw s) (hr : ∀ l o, t.Runs l o ↔ s.Runs l o)
    (ho : ∀ l o, (t.lane l).Owns o ↔ (s.lane l).Owns o) : OwnerLaw t :=
  (ownerLaw_iff t).2 fun l o => (hr l o).trans (((ownerLaw_iff s).1 h l o).trans (ho l o).symm)

/-- The owner that runs on a lane runs on no other. -/
theorem runs_lane {l m : LaneNo} {o : Owner} (h : s.Runs l o) (h' : s.Runs m o) : l = m := by
  cases o with
  | entry n => exact h.2.symm.trans h'.2
  | slot k => exact h.2.symm.trans h'.2

theorem Lane.owns_unique {L : Lane} {o o' : Owner} (h : L.Owns o) (h' : L.Owns o') : o = o' :=
  Option.some.inj (h.2.symm.trans h'.2)

/-- A lane with nothing in flight begins the transaction of an owner that did not run (R117, R120). -/
theorem OwnerLaw.begins (l : LaneNo) (o : Owner) (h : OwnerLaw s) (hidle : ∀ o', ¬(s.lane l).Owns o')
    (hbefore : ∀ m, ¬s.Runs m o) (hl : ∀ o', (t.lane l).Owns o' ↔ o' = o)
    (hm : ∀ m, m ≠ l → t.lane m = s.lane m) (ho : ∀ m, t.Runs m o ↔ m = l)
    (hr : ∀ o', o' ≠ o → ∀ m, t.Runs m o' ↔ s.Runs m o') : OwnerLaw t := by
  rw [ownerLaw_iff] at h ⊢
  intro m o'
  by_cases hml : m = l
  · subst hml
    rw [hl]
    by_cases hoo : o' = o
    · subst hoo; simp [ho]
    · rw [hr o' hoo, h]
      exact iff_of_false (hidle o') hoo
  · rw [hm m hml, ← h]
    by_cases hoo : o' = o
    · subst hoo; exact iff_of_false (fun hrun => hml ((ho m).1 hrun)) (hbefore m)
    · exact hr o' hoo m

/-- The transaction of a lane ends, and its owner no longer runs (R125, R129). -/
theorem OwnerLaw.ends (l : LaneNo) (o : Owner) (h : OwnerLaw s) (howns : (s.lane l).Owns o)
    (hl : ∀ o', ¬(t.lane l).Owns o') (hm : ∀ m, m ≠ l → t.lane m = s.lane m) (ho : ∀ m, ¬t.Runs m o)
    (hr : ∀ o', o' ≠ o → ∀ m, t.Runs m o' ↔ s.Runs m o') : OwnerLaw t := by
  rw [ownerLaw_iff] at h ⊢
  have hran : s.Runs l o := (h l o).2 howns
  intro m o'
  by_cases hml : m = l
  · subst hml
    refine iff_of_false (fun hrun => ?_) (hl o')
    by_cases hoo : o' = o
    · subst hoo; exact ho m hrun
    · exact hoo (Lane.owns_unique ((h m o').1 ((hr o' hoo m).1 hrun)) howns)
  · rw [hm m hml, ← h]
    by_cases hoo : o' = o
    · subst hoo; exact iff_of_false (ho m) fun hrun => hml (runs_lane hrun hran)
    · exact hr o' hoo m

theorem owns_begun {o o' : Owner} {i : SelectNo} {p : LineProfile} {w : Nat} {L : Lane} :
    (begun o i p w L).Owns o' ↔ o' = o := by
  simp [Lane.Owns, begun, Lane.inFlight, eq_comm]

theorem not_inFlight_of_idle {L : Lane} (h : L.phase = .idle) : L.inFlight = false := by
  simp [Lane.inFlight, h]

/-- What runs is as before where entries and slots run as before. -/
theorem runs_iff (he : ∀ n l, (t.entry n).RunsOn l ↔ (s.entry n).RunsOn l)
    (hk : ∀ k l, (t.slot k).RunsOn l ↔ (s.slot k).RunsOn l) (l : LaneNo) (o : Owner) : t.Runs l o ↔ s.Runs l o := by
  cases o with
  | entry n => exact he n l
  | slot k => exact hk k l

theorem OwnerLaw.of_samePlaces (h : SamePlaces s t) (hs : OwnerLaw s) : OwnerLaw t :=
  hs.congr (runs_iff (fun n => (h.entry n).runsOn) fun k => (h.slot k).runsOn) h.owns

/-- One entry alone changes, and runs where it did. -/
theorem OwnerLaw.of_entry (n : EntryNo) (h : OwnerLaw s)
    (hn : ∀ l, (t.entry n).RunsOn l ↔ (s.entry n).RunsOn l) (hm : ∀ m, m ≠ n → t.entry m = s.entry m)
    (hk : ∀ k, t.slot k = s.slot k) (ho : ∀ l o, (t.lane l).Owns o ↔ (s.lane l).Owns o) : OwnerLaw t :=
  h.congr (runs_iff (fun m l => iff_of_only (Entry.RunsOn l) n (hn l) hm m) fun k l => by rw [hk k]) ho

/-- One slot alone changes, and did not run and does not. -/
theorem OwnerLaw.of_slot (k : SlotNo) (h : OwnerLaw s) (hk : (s.slot k).state ≠ .running)
    (hk' : (t.slot k).state ≠ .running) (hj : ∀ j, j ≠ k → t.slot j = s.slot j)
    (he : ∀ n, t.entry n = s.entry n) (ho : ∀ l, t.lane l = s.lane l) : OwnerLaw t :=
  h.congr
    (runs_iff (fun n l => by rw [he n])
      fun j l => iff_of_only (Slot.RunsOn l) k (iff_of_false (fun h => hk' h.1) fun h => hk h.1) hj j)
    fun l o => by rw [ho l]

/-- One lane alone changes, and not the owner of a transaction in flight on it. -/
theorem OwnerLaw.of_lane (l : LaneNo) (h : OwnerLaw s) (hl : ∀ o, (t.lane l).Owns o ↔ (s.lane l).Owns o)
    (hm : ∀ m, m ≠ l → t.lane m = s.lane m) (he : ∀ n, t.entry n = s.entry n) (hk : ∀ k, t.slot k = s.slot k) :
    OwnerLaw t :=
  h.congr (runs_iff (fun n _ => by rw [he n]) fun k _ => by rw [hk k])
    fun m o => iff_of_only (Lane.Owns · o) l (hl o) hm m

theorem not_runsOn {e : Entry} (h : e.run.state ≠ .active) (h' : e.run.state ≠ .stopping) (l : LaneNo) :
    ¬e.RunsOn l := fun hr => hr.1.elim h h'

theorem runsOn_unqueue (l : LaneNo) (e : Entry) : ({ e with run := unqueue e.run } : Entry).RunsOn l ↔ e.RunsOn l := by
  by_cases hq : e.run.state = .queued <;> simp [Entry.RunsOn, unqueue, hq]

/-- The end of a transaction ends its owner's run, if it ran, and no other's (R12, R20, R150). -/
theorem runs_handOver (x : Txn) (o : TxnOutcome) (s : State) :
    (∀ m, ¬(handOver x o s).Runs m x.owner) ∧
      ∀ o', o' ≠ x.owner → ∀ m, (handOver x o s).Runs m o' ↔ s.Runs m o' := by
  rcases handOver_cases x o s with
    ⟨n, ho, hn, h⟩ | ⟨n, ho, hn, h⟩ | ⟨n, ho, hn, hn', h⟩ | ⟨k, w, ho, hk, h⟩ | ⟨k, ho, hk, h⟩
  all_goals
    rw [h, ho]
    refine ⟨fun m => ?_, fun o' hne m => ?_⟩
  · exact not_runsOn (by simp) (by simp) m
  · cases o' with
    | entry i => have hni : n ≠ i := fun e => hne (by rw [e]); simp [State.Runs, hni]
    | slot j => simp [State.Runs]
  · exact not_runsOn (by simp) (by simp) m
  · cases o' with
    | entry i => have hni : n ≠ i := fun e => hne (by rw [e]); simp [State.Runs, hni]
    | slot j => simp [State.Runs]
  · exact not_runsOn hn' hn m
  · rfl
  · rintro ⟨hrun, _⟩
    rcases finished_final o w (s.slot k) with hf | hf | hf <;> simp [hf] at hrun
  · cases o' with
    | entry i => simp [State.Runs]
    | slot j => have hkj : k ≠ j := fun e => hne (by rw [e]); simp [State.Runs, hkj]
  · exact fun hrun => hk (by simpa using hrun.1)
  · cases o' with
    | entry i => simp [State.Runs]
    | slot j => simp [State.Runs]

/-- A move keeps the owners; who the arbiter takes waited, so it did not run. -/
theorem Moves.keeps_ownerLaw (h : Moves s t) (hmember : MembershipLaw s) (hs : OwnerLaw s) : OwnerLaw t := by
  cases h with
  | offered n hw hq =>
    refine hs.of_entry n (fun l => ?_) (fun m hm => by simp [Ne.symm hm]) (fun _ => rfl) fun l o => ?_
    · exact iff_of_false (not_runsOn (by simp) (by simp) l) (not_runsOn (by simp [hw]) (by simp [hw]) l)
    · rw [lane_modLane]
      split
      · next h => subst h; rfl
      · rfl
  | takesSlot l k hm hp hw =>
    obtain ⟨hin, hlane⟩ := waitingSlot_some s hw
    have hk := (hmember.2.2.2 k).1 hin
    refine hs.begins l (.slot k) (not_owns_of_not_inFlight (not_inFlight_of_idle hp)) ?_ (fun o' => ?_) ?_ ?_ ?_
    · exact fun m hrun => absurd hrun.1 (by simp [hk])
    · rw [lane_takeSlot, if_pos rfl]; exact owns_begun
    · exact fun m hne => by rw [lane_takeSlot, if_neg (Ne.symm hne)]
    · exact fun m => by simp [State.Runs, Slot.RunsOn, slot_takeSlot, hlane, eq_comm]
    · intro o' hne m
      cases o' with
      | entry n => rfl
      | slot j => have hkj : k ≠ j := fun e => hne (by rw [e]); simp [State.Runs, slot_takeSlot, hkj]
  | takesEntry l n q hm hp hq =>
    have hn := (hmember.2.1 l n).1 (by simp [hq])
    refine hs.begins l (.entry n) (not_owns_of_not_inFlight (not_inFlight_of_idle hp)) ?_ (fun o' => ?_) ?_ ?_ ?_
    · exact fun m => not_runsOn (by simp [hn.1]) (by simp [hn.1]) m
    · rw [lane_takeEntry, if_pos rfl]; exact owns_begun
    · exact fun m hne => by rw [lane_takeEntry, if_neg (Ne.symm hne)]
    · exact fun m => by simp [State.Runs, Entry.RunsOn, entry_takeEntry, hn.2, eq_comm]
    · intro o' hne m
      cases o' with
      | entry i => have hni : n ≠ i := fun e => hne (by rw [e]); simp [State.Runs, entry_takeEntry, hni]
      | slot j => rfl
  | stopsScan =>
    refine hs.congr (runs_iff (fun n l => ?_) fun _ _ => Iff.rfl) fun l o => ?_
    · rw [entry_mapRuns]; exact runsOn_unqueue l _
    · simp [State.lane, getElem_mapTable, Lane.Owns, Lane.inFlight]
  | enables n hoff hv =>
    refine hs.of_entry n (fun l => iff_of_false ?_ ?_) (fun m hm => by simp [Ne.symm hm]) (fun _ => rfl)
      fun _ _ => Iff.rfl
    · exact not_runsOn (by simp [enabledRun]) (by simp [enabledRun]) l
    · exact not_runsOn (by simp [hoff]) (by simp [hoff]) l
  | stopsWaiting n hw =>
    refine hs.of_entry n (fun l => iff_of_false ?_ ?_) (fun m hm => by simp [Ne.symm hm]) (fun _ => rfl)
      fun _ _ => Iff.rfl
    · exact not_runsOn (by simp) (by simp) l
    · exact not_runsOn (by simp [hw]) (by simp [hw]) l
  | stopsQueued n hq =>
    refine hs.of_entry n (fun l => iff_of_false ?_ ?_) (fun m hm => by simp [Ne.symm hm]) (fun _ => rfl) fun l o => ?_
    · exact not_runsOn (by simp) (by simp) l
    · exact not_runsOn (by simp [hq]) (by simp [hq]) l
    · rw [lane_reachOff, lane_modLane]
      split
      · next h => subst h; rfl
      · rfl
  | stopsActive n ha hf =>
    refine hs.of_entry n (fun l => ?_) (fun m hm => by simp [Ne.symm hm]) (fun _ => rfl) fun _ _ => Iff.rfl
    simp [Entry.RunsOn, ha]
  | holds l hm hp =>
    exact hs.of_lane l (fun o => by simp [Lane.Owns, Lane.inFlight]) (fun m hm => by simp [Ne.symm hm]) (fun _ => rfl)
      fun _ => rfl
  | holdsLater l hm hf =>
    exact hs.of_lane l (fun o => by simp [Lane.Owns, Lane.inFlight]) (fun m hm => by simp [Ne.symm hm]) (fun _ => rfl)
      fun _ => rfl
  | releases l hm =>
    exact hs.of_lane l (fun o => by simp [Lane.Owns, Lane.inFlight]) (fun m hm => by simp [Ne.symm hm]) (fun _ => rfl)
      fun _ => rfl
  | holdsAtLast l hm hp =>
    exact hs.of_lane l (fun o => by simp [Lane.Owns, Lane.inFlight]) (fun m hm => by simp [Ne.symm hm])
      (fun _ => by simp) fun _ => by simp
  | clears l hi hf =>
    refine hs.congr (runs_iff (fun n m => ?_) fun _ _ => Iff.rfl) fun m o => ?_
    · rw [entry_mapRuns]
      dsimp only
      split
      · exact runsOn_unqueue m _
      · rfl
    · rw [lane_mapRuns_other]
      refine iff_of_only (Lane.Owns · o) l (iff_of_false ?_ ?_) (fun m hm => by simp [Ne.symm hm]) m
      · exact not_owns_of_not_inFlight (by simp [clearLane, Lane.inFlight]) o
      · rintro ⟨hfly, howner⟩
        obtain ⟨x, hx, _⟩ := Option.map_eq_some_iff.1 howner
        rw [hi x hx] at hfly
        exact Bool.false_ne_true hfly
  | submits k hfree hv =>
    exact hs.of_slot k (by simp [hfree]) (by simp) (fun j hj => by simp [Ne.symm hj]) (fun _ => rfl) fun _ => rfl
  | withdraws k hk =>
    exact hs.of_slot k (by simp [hk]) (by simp) (fun j hj => by simp [Ne.symm hj]) (fun _ => by simp) fun _ => by simp
  | cancelsRunning k hk hf => exact hs
  | frees k hk =>
    refine hs.of_slot k ?_ (by simp) (fun j hj => by simp [Ne.symm hj]) (fun _ => rfl) fun _ => rfl
    rcases hk with hk | hk | hk <;> simp [hk]
  | finishes l x o ht hi =>
    obtain ⟨hended, hothers⟩ := runs_handOver x o (s.modLane l released)
    refine hs.ends l x.owner ⟨hi, by simp [ht]⟩ (fun o' => ?_) (fun m hm => ?_) hended hothers
    · rw [lane_handOver]
      exact not_owns_of_not_inFlight (by simp) o'
    · rw [lane_handOver]; simp [Ne.symm hm]

/-- With nobody running and nothing in flight. -/
theorem OwnerLaw.of_none (he : ∀ n, (t.entry n).run.state = .off) (hk : ∀ k, (t.slot k).state = .free)
    (hl : ∀ l, (t.lane l).phase = .idle) : OwnerLaw t := by
  refine (ownerLaw_iff t).2 fun l o => iff_of_false ?_ (not_owns_of_not_inFlight (not_inFlight_of_idle (hl l)) o)
  cases o with
  | entry n => exact not_runsOn (by simp [he n]) (by simp [he n]) l
  | slot k => exact fun hrun => absurd hrun.1 (by simp [hk k])

theorem Event.keeps_ownerLaw (h : Event s t) (hmember : MembershipLaw s) (hs : OwnerLaw s) : OwnerLaw t := by
  cases h with
  | other h => exact hs.of_samePlaces h.samePlaces
  | reports h => exact hs.of_samePlaces h.samePlaces
  | passes h => exact hs.of_samePlaces h.samePlaces
  | moves h => exact h.keeps_ownerLaw hmember hs
  | powersOn =>
    refine .of_none (fun n => ?_) (fun k => ?_) fun l => ?_
    · simp [State.entry, State.powerOn, EntryRun.powerOn]
    · simp [State.slot, State.powerOn, Slot.powerOn]
    · simp [State.lane, State.powerOn, Lane.powerOn]
  | softResets arg =>
    refine .of_none (fun n => ?_) (fun k => ?_) fun l => ?_
    · simp [State.entry, softReset, getElem_mapTable, EntryRun.powerOn]
    · simp [State.slot, softReset, getElem_mapTable, softResetSlot, Slot.powerOn]
    · simp [State.lane, softReset, getElem_mapTable, softResetLane, Lane.powerOn]

/-- Settles O58: a transaction begins with an owner that waited, and its end ends the owner's run. -/
theorem stepKeepsTheOwners : Obligations.StepKeepsTheOwners :=
  fun _ _ hs h =>
    (step_keeps (P := fun s => MembershipLaw s ∧ OwnerLaw s)
      (fun he ⟨hmember, howner⟩ => ⟨he.keeps_membershipLaw hmember, he.keeps_ownerLaw hmember howner⟩)
      (fun _ _ h => h) h hs).2

end Sys2Proof.Machine
end

section
/-! SUPPORT. The marks of the command in flight, STOPPING and HOLD_PENDING: every elementary event keeps their law. -/

namespace Sys2Proof.Machine

variable {s t : State}

/-! ### The marks of the command in flight -/

/-- Marks and the command in flight stay, and a slot whose cancel is in flight stays RUNNING. -/
theorem FlightLaw.congr (h : FlightLaw s) (hf : t.cmd.inFlight = s.cmd.inFlight)
    (he : ∀ n, (t.entry n).run.state = .stopping ↔ (s.entry n).run.state = .stopping)
    (hl : ∀ l, (t.lane l).mode = .holdPending ↔ (s.lane l).mode = .holdPending)
    (hk : ∀ k, s.cmd.inFlight = some (.directCancel k) → (s.slot k).state = .running → (t.slot k).state = .running) :
    FlightLaw t := by
  obtain ⟨hstop, hhold, hcancel⟩ := h
  refine ⟨fun n => ?_, fun l => ?_, fun k hin => ?_⟩
  · rw [he n, hf]; exact hstop n
  · rw [hl l, hf]; exact hhold l
  · rw [hf] at hin
    exact hk k hin (hcancel k hin)

/-- With no command in flight nothing is marked. -/
theorem FlightLaw.of_none (hf : t.cmd.inFlight = none) (he : ∀ n, (t.entry n).run.state ≠ .stopping)
    (hl : ∀ l, (t.lane l).mode ≠ .holdPending) : FlightLaw t := by
  refine ⟨fun n => iff_of_false (he n) ?_, fun l => iff_of_false (hl l) ?_, fun k hin => ?_⟩
  · simp [hf]
  · simp [hf]
  · simp [hf] at hin

theorem FlightLaw.not_stopping {n : EntryNo} (h : FlightLaw s) (hf : s.cmd.inFlight ≠ some (.entryStop n)) :
    (s.entry n).run.state ≠ .stopping := fun hn => hf ((h.1 n).1 hn)

theorem FlightLaw.not_holdPending {l : LaneNo} (h : FlightLaw s) (hf : s.cmd.inFlight ≠ some (.laneHold l)) :
    (s.lane l).mode ≠ .holdPending := fun hl => hf ((h.2.1 l).1 hl)

/-- A change of the entries alone that marks none and unmarks none. -/
theorem FlightLaw.of_entries (h : FlightLaw s) (hf : t.cmd.inFlight = s.cmd.inFlight)
    (he : ∀ n, (t.entry n).run.state = .stopping ↔ (s.entry n).run.state = .stopping)
    (hl : ∀ l, (t.lane l).mode = (s.lane l).mode) (hk : ∀ k, t.slot k = s.slot k) : FlightLaw t :=
  h.congr hf he (fun l => by rw [hl l]) fun k _ hrun => by rw [hk k]; exact hrun

/-- One entry alone changes, and is not marked before or after. -/
theorem FlightLaw.of_entry (n : EntryNo) (h : FlightLaw s) (hf : t.cmd.inFlight = s.cmd.inFlight)
    (hn : (s.entry n).run.state ≠ .stopping) (hn' : (t.entry n).run.state ≠ .stopping)
    (hm : ∀ m, m ≠ n → t.entry m = s.entry m) (hl : ∀ l, (t.lane l).mode = (s.lane l).mode)
    (hk : ∀ k, t.slot k = s.slot k) : FlightLaw t :=
  h.of_entries hf (iff_of_only (fun e : Entry => e.run.state = .stopping) n (iff_of_false hn' hn) hm) hl hk

/-- One lane alone changes, and is not marked before or after. -/
theorem FlightLaw.of_lane (l : LaneNo) (h : FlightLaw s) (hf : t.cmd.inFlight = s.cmd.inFlight)
    (hl : (s.lane l).mode ≠ .holdPending) (hl' : (t.lane l).mode ≠ .holdPending)
    (hm : ∀ m, m ≠ l → t.lane m = s.lane m) (he : ∀ n, t.entry n = s.entry n) (hk : ∀ k, t.slot k = s.slot k) :
    FlightLaw t :=
  h.congr hf (fun n => by rw [he n])
    (iff_of_only (fun L : Lane => L.mode = .holdPending) l (iff_of_false hl' hl) hm)
    fun k _ hrun => by rw [hk k]; exact hrun

/-- One slot alone changes, and its cancel is not in flight. -/
theorem FlightLaw.of_slot (k : SlotNo) (h : FlightLaw s) (hf : t.cmd.inFlight = s.cmd.inFlight)
    (hk : s.cmd.inFlight ≠ some (.directCancel k)) (hj : ∀ j, j ≠ k → t.slot j = s.slot j)
    (he : ∀ n, (t.entry n).run = (s.entry n).run) (hl : ∀ l, (t.lane l).mode = (s.lane l).mode) : FlightLaw t :=
  h.congr hf (fun n => by rw [he n]) (fun l => by rw [hl l]) fun j hin hrun => by
    rw [hj j fun e => hk (e ▸ hin)]; exact hrun

theorem FlightLaw.not_cancelled {k : SlotNo} (h : FlightLaw s) (hk : (s.slot k).state ≠ .running) :
    s.cmd.inFlight ≠ some (.directCancel k) := fun hin => hk (h.2.2 k hin)

/-- An entry that leaves its queue was not marked and is not (R129, R82). -/
theorem unqueue_stopping (r : EntryRun) : (unqueue r).state = .stopping ↔ r.state = .stopping := by
  by_cases hq : r.state = .queued <;> simp [unqueue, hq]

theorem FlightLaw.of_samePlaces (h : SamePlaces s t) (hs : FlightLaw s) : FlightLaw t :=
  hs.congr h.inFlight (fun n => by rw [(h.entry n).1]) (fun l => by rw [h.mode l]) fun k _ hrun => by
    rw [(h.slot k).1]; exact hrun

/-- The end of a transaction ends the stop or the cancel in flight of its owner, and no other command (R20, R151). -/
theorem FlightLaw.handOver {x : Txn} {o : TxnOutcome} (hs : FlightLaw s) : FlightLaw (handOver x o s) := by
  rcases handOver_cases x o s with
    ⟨n, _, hn, h⟩ | ⟨n, _, hn, h⟩ | ⟨n, _, _, _, h⟩ | ⟨k, w, _, hk, h⟩ | ⟨k, _, hk, h⟩
  · have hin := (hs.1 n).1 hn
    rw [h]
    refine .of_none (by simp [hin]) (fun m => ?_) fun l => ?_
    · by_cases hm : n = m
      · subst hm; simp
      · simpa [hm] using hs.not_stopping (by simp [hin, hm])
    · simpa using hs.not_holdPending (by simp [hin])
  · rw [h]
    exact hs.of_entry n rfl (by simp [hn]) (by simp) (fun m hm => by simp [Ne.symm hm]) (fun _ => rfl) fun _ => rfl
  · rw [h]; exact hs
  · rw [h]
    by_cases hin : s.cmd.inFlight = some (.directCancel k)
    · refine .of_none (by simp [hin]) (fun n => ?_) fun l => ?_
      · simpa using hs.not_stopping (by simp [hin])
      · simpa using hs.not_holdPending (by simp [hin])
    · refine hs.of_slot k ?_ hin (fun j hj => ?_) (fun n => ?_) fun l => ?_
      · simp [hin]
      · simp [Ne.symm hj]
      · simp
      · simp
  · have hin := hs.not_cancelled hk
    rw [h, completeFlight_of_ne hin]
    exact hs

/-- A move keeps the marks: what goes in flight marks its own object, and its end takes the mark away. -/
theorem Moves.keeps_flightLaw (h : Moves s t) (hmember : MembershipLaw s) (hs : FlightLaw s) : FlightLaw t := by
  cases h with
  | offered n hw hq =>
    refine hs.of_entry n rfl (by simp [hw]) (by simp) (fun m hm => by simp [Ne.symm hm]) (fun l => ?_) fun _ => rfl
    rw [lane_modLane]
    split
    · next h => subst h; rfl
    · rfl
  | takesSlot l k hm hp hw =>
    refine hs.congr rfl (fun _ => Iff.rfl) (fun m => ?_) fun j _ hrun => ?_
    · rw [lane_takeSlot]
      split
      · next h => subst h; rfl
      · rfl
    · rw [slot_takeSlot]
      split
      · rfl
      · exact hrun
  | takesEntry l n q hm hp hq =>
    have hn := (hmember.2.1 l n).1 (by simp [hq])
    refine hs.of_entry n rfl (by simp [hn.1]) (by simp [entry_takeEntry])
      (fun m hm => by simp [entry_takeEntry, Ne.symm hm]) (fun m => ?_) fun _ => rfl
    rw [lane_takeEntry]
    split
    · next h => subst h; rfl
    · rfl
  | stopsScan =>
    refine hs.of_entries rfl (fun n => ?_) (fun l => ?_) fun _ => rfl
    · rw [entry_mapRuns]; exact unqueue_stopping _
    · simp [State.lane, getElem_mapTable]
  | enables n hoff hv =>
    exact hs.of_entry n rfl (by simp [hoff]) (by simp [enabledRun]) (fun m hm => by simp [Ne.symm hm])
      (fun _ => rfl) fun _ => rfl
  | stopsWaiting n hw =>
    exact hs.of_entry n rfl (by simp [hw]) (by simp) (fun m hm => by simp [Ne.symm hm]) (fun _ => rfl) fun _ => rfl
  | stopsQueued n hq =>
    refine hs.of_entry n rfl (by simp [hq]) (by simp) (fun m hm => by simp [Ne.symm hm]) (fun l => ?_) fun _ => rfl
    rw [lane_reachOff, lane_modLane]
    split
    · next h => subst h; rfl
    · rfl
  | stopsActive n ha hf =>
    refine ⟨fun m => ?_, fun l => ?_, fun k hin => by simp at hin⟩
    · by_cases hm : n = m
      · subst hm; simp
      · simpa [hm] using hs.not_stopping (n := m) (by simp [hf])
    · simpa using hs.not_holdPending (l := l) (by simp [hf])
  | holds l hm hp =>
    exact hs.of_lane l rfl (by simp [hm]) (by simp) (fun m hm => by simp [Ne.symm hm]) (fun _ => rfl) fun _ => rfl
  | holdsLater l hm hf =>
    refine ⟨fun n => ?_, fun m => ?_, fun k hin => by simp at hin⟩
    · simpa using hs.not_stopping (n := n) (by simp [hf])
    · by_cases hml : l = m
      · subst hml; simp
      · simpa [hml] using hs.not_holdPending (l := m) (by simp [hf])
  | releases l hm =>
    exact hs.of_lane l rfl (by simp [hm]) (by simp) (fun m hm => by simp [Ne.symm hm]) (fun _ => rfl) fun _ => rfl
  | holdsAtLast l hm hp =>
    have hin := (hs.2.1 l).1 hm
    refine .of_none (by simp [hin]) (fun n => ?_) fun m => ?_
    · simpa using hs.not_stopping (n := n) (by simp [hin])
    · by_cases hml : l = m
      · subst hml; simp
      · simpa [hml] using hs.not_holdPending (l := m) (by simp [hin, hml])
  | clears l hi hf =>
    refine .of_none hf (fun n => ?_) fun m => ?_
    · have hn := hs.not_stopping (n := n) (by simp [hf])
      rw [entry_mapRuns]
      dsimp only
      split
      · exact fun h => hn ((unqueue_stopping _).1 h)
      · exact hn
    · rw [lane_mapRuns_other, lane_modLane]
      split
      · simp [clearLane]
      · exact hs.not_holdPending (by simp [hf])
  | submits k hfree hv =>
    exact hs.of_slot k rfl (hs.not_cancelled (by simp [hfree])) (fun j hj => by simp [Ne.symm hj]) (fun _ => rfl)
      fun _ => rfl
  | withdraws k hk =>
    refine hs.of_slot k ?_ (hs.not_cancelled (by simp [hk])) (fun j hj => by simp [Ne.symm hj]) (fun n => by simp)
      fun l => by simp
    simp only [cancelQueued, cmd_notifyDirect]; rfl
  | cancelsRunning k hk hf =>
    refine ⟨fun n => ?_, fun l => ?_, fun j hin => ?_⟩
    · simpa using hs.not_stopping (n := n) (by simp [hf])
    · simpa using hs.not_holdPending (l := l) (by simp [hf])
    · obtain rfl : k = j := by simpa using hin
      exact hk
  | frees k hk =>
    refine hs.of_slot k rfl (hs.not_cancelled ?_) (fun j hj => by simp [Ne.symm hj]) (fun _ => rfl) fun _ => rfl
    rcases hk with hk | hk | hk <;> simp [hk]
  | finishes l x o ht hi =>
    refine FlightLaw.handOver (s := s.modLane l released)
      (hs.of_entries rfl (fun _ => Iff.rfl) (fun m => ?_) fun _ => rfl)
    exact eq_of_only Lane.mode l (by simp [released]) (fun m hm => by simp [Ne.symm hm]) m

theorem Event.keeps_flightLaw (h : Event s t) (hmember : MembershipLaw s) (hs : FlightLaw s) : FlightLaw t := by
  cases h with
  | other h => exact hs.of_samePlaces h.samePlaces
  | reports h => exact hs.of_samePlaces h.samePlaces
  | passes h => exact hs.of_samePlaces h.samePlaces
  | moves h => exact h.keeps_flightLaw hmember hs
  | powersOn =>
    refine .of_none rfl (fun n => ?_) fun l => ?_
    · simp [State.entry, State.powerOn, EntryRun.powerOn]
    · simp [State.lane, State.powerOn, Lane.powerOn]
  | softResets arg =>
    refine .of_none rfl (fun n => ?_) fun l => ?_
    · simp [State.entry, softReset, getElem_mapTable, EntryRun.powerOn]
    · simp [State.lane, softReset, getElem_mapTable, softResetLane, Lane.powerOn]

theorem Event.keeps_flightLaws (h : Event s t) (hs : MembershipLaw s ∧ FlightLaw s) :
    MembershipLaw t ∧ FlightLaw t :=
  ⟨h.keeps_membershipLaw hs.1, h.keeps_flightLaw hs.1 hs.2⟩

/-- Settles O59: what goes in flight marks its own object while nothing else is in flight, and its end unmarks it. -/
theorem stepKeepsTheCommandInFlight : Obligations.StepKeepsTheCommandInFlight :=
  fun _ _ hs h => (step_keeps Event.keeps_flightLaws (fun _ _ h => h) h hs).2

end Sys2Proof.Machine
end

section
/-! SUPPORT. Where a command could fault, and that under the laws it does not; and that no command touches the
commands that wait behind it. -/

namespace Sys2Proof.Machine

variable {s t : State} {f : Fault}

/-! ### Where a fault comes from -/

theorem hostAccess_ne_fault {g : State → Outcome} (h : g (settleDues s) ≠ .fault f) : hostAccess g s ≠ .fault f := by
  unfold hostAccess
  split
  · nofun
  · exact h

/-- A host write that always answers a state does not fault. -/
theorem hostWrite_ne_fault {g : State → Outcome} (h : ∀ u, g u ≠ .fault f) : hostWrite g s ≠ .fault f :=
  hostAccess_ne_fault (h _)

theorem next_ne_fault : (.next t : Outcome) ≠ .fault f := nofun

theorem hostRead_ne_fault {value : State → Word} {g : State → State} : hostRead value g s ≠ .fault f :=
  hostAccess_ne_fault next_ne_fault

/-- A command word faults only by its owner's answer (log entry 13). -/
theorem hostCommand_ne_fault {code arg : Byte} {owner : State → CmdAnswer} (hs : FlightLaw (settleDues s))
    (h : ∀ u, u.cmd.inFlight = none → FlightLaw u → owner u ≠ .ruledOut) :
    hostCommand code arg owner s ≠ .fault f := by
  unfold hostCommand hostWrite
  refine hostAccess_ne_fault ?_
  generalize hv : ({ settleDues s with port := { (settleDues s).port with data := none } } : State) = v
  have hlaw : FlightLaw v := by subst hv; exact hs
  cases hf : v.cmd.inFlight with
  | some g => simp [takeCommand, hf]
  | none =>
    rw [takeCommand_ready hf]
    cases ho : owner v with
    | ruledOut => exact absurd ho (h v hf hlaw)
    | _ => nofun

/-- A lane event faults only by what it does to its own transaction. -/
theorem laneEvent_ne_fault {l : LaneNo} {p : Phase} {g : Txn → State → Outcome}
    (h : ∀ x, ((settleDues s).lane l).txn = some x → ((settleDues s).lane l).phase = p →
      g x (settleDues s) ≠ .fault f) : laneEvent l p g s ≠ .fault f := by
  unfold laneEvent
  split
  · nofun
  · dsimp only
    split
    · nofun
    · next x hx =>
      split
      · next hp => exact h x hx hp
      · nofun

/-! ### The owners, by their answers -/

theorem startScanOwner_ne_ruledOut (u : State) : startScanOwner u ≠ .ruledOut := by
  unfold startScanOwner; split <;> nofun

theorem stopScanOwner_ne_ruledOut (u : State) : stopScanOwner u ≠ .ruledOut := by
  unfold stopScanOwner; split <;> nofun

theorem entryEnableOwner_ne_ruledOut (a : Byte) (u : State) : entryEnableOwner a u ≠ .ruledOut := by
  unfold entryEnableOwner
  split
  · nofun
  · dsimp only
    split
    · nofun
    · split <;> nofun

/-- ENTRY_STOP meets a STOPPING entry only with its stop in flight (R13, R19). -/
theorem entryStopOwner_ne_ruledOut (a : Byte) {u : State} (hf : u.cmd.inFlight = none) (hu : FlightLaw u) :
    entryStopOwner a u ≠ .ruledOut := by
  unfold entryStopOwner
  split
  · nofun
  · next n _ =>
    have hn := hu.not_stopping (n := n) (by simp [hf])
    dsimp only
    split
    case h_5 h => exact absurd h hn
    all_goals nofun

theorem entryRearmOwner_ne_ruledOut (a : Byte) (u : State) : entryRearmOwner a u ≠ .ruledOut := by
  unfold entryRearmOwner
  split
  · nofun
  · dsimp only
    split
    · nofun
    · split <;> nofun

/-- A lane command meets a HOLD_PENDING lane only with its hold in flight (R113). -/
theorem laneHoldOwner_ne_ruledOut (a : Byte) {u : State} (hf : u.cmd.inFlight = none) (hu : FlightLaw u) :
    laneHoldOwner a u ≠ .ruledOut := by
  unfold laneHoldOwner
  split
  · nofun
  · next l _ =>
    have hl := hu.not_holdPending (l := l) (by simp [hf])
    split
    · nofun
    · next h => exact absurd h hl
    · split <;> nofun

theorem laneReleaseOwner_ne_ruledOut (a : Byte) {u : State} (hf : u.cmd.inFlight = none) (hu : FlightLaw u) :
    laneReleaseOwner a u ≠ .ruledOut := by
  unfold laneReleaseOwner
  split
  · nofun
  · next l _ =>
    have hl := hu.not_holdPending (l := l) (by simp [hf])
    split
    · nofun
    · next h => exact absurd h hl
    · nofun

theorem laneResetOwner_ne_ruledOut (a : Byte) (u : State) : laneResetOwner a u ≠ .ruledOut := by
  unfold laneResetOwner; split <;> nofun

theorem directSubmitOwner_ne_ruledOut (a : Byte) (u : State) : directSubmitOwner a u ≠ .ruledOut := by
  unfold directSubmitOwner
  split
  · nofun
  · dsimp only
    split
    · nofun
    · split <;> nofun

theorem directCancelOwner_ne_ruledOut (a : Byte) (u : State) : directCancelOwner a u ≠ .ruledOut := by
  unfold directCancelOwner
  split
  · nofun
  · split <;> nofun

theorem directReleaseOwner_ne_ruledOut (a : Byte) (u : State) : directReleaseOwner a u ≠ .ruledOut := by
  unfold directReleaseOwner
  split
  · nofun
  · split <;> nofun

theorem queueFlushOwner_ne_ruledOut (u : State) : queueFlushOwner u ≠ .ruledOut := by
  unfold queueFlushOwner; nofun

/-! ### The other commands that can answer more than a state -/

theorem execTick_ne_fault : execTick s ≠ .fault f := by
  unfold execTick; split <;> nofun

theorem execResetRelease_ne_fault : execResetRelease s ≠ .fault f := by
  unfold execResetRelease; split <;> nofun

theorem execDue_ne_fault {n : EntryNo} : execDue n s ≠ .fault f := by
  unfold execDue
  split
  · nofun
  · split
    · nofun
    · split
      · dsimp only
        split <;> exact next_ne_fault
      · nofun

theorem execUnknownCommand_ne_fault {w : Word} : execUnknownCommand w s ≠ .fault f := by
  unfold execUnknownCommand
  split
  · nofun
  · exact hostWrite_ne_fault fun u => by split <;> nofun

theorem execRegisterWrite_ne_fault {a : Addr} {v : Word} : execRegisterWrite a v s ≠ .fault f := by
  unfold execRegisterWrite
  split
  · exact hostWrite_ne_fault fun u => by split <;> nofun
  · nofun

theorem execSetupEnd_ne_fault {l : LaneNo} {r : Bool} : execSetupEnd l r s ≠ .fault f := by
  unfold execSetupEnd
  exact laneEvent_ne_fault fun _ _ _ => next_ne_fault

theorem execReadyObserved_ne_fault {l : LaneNo} {k : Nat} : execReadyObserved l k s ≠ .fault f := by
  unfold execReadyObserved
  exact laneEvent_ne_fault fun _ _ _ => by split <;> nofun

theorem execReadyTimeout_ne_fault {l : LaneNo} : execReadyTimeout l s ≠ .fault f := by
  unfold execReadyTimeout
  exact laneEvent_ne_fault fun _ _ _ => next_ne_fault

theorem execWordEnd_ne_fault {l : LaneNo} {b : List Bool} {r : Bool} : execWordEnd l b r s ≠ .fault f := by
  unfold execWordEnd
  exact laneEvent_ne_fault fun _ _ _ => by split <;> nofun

theorem execGapEnd_ne_fault {l : LaneNo} {r : Bool} : execGapEnd l r s ≠ .fault f := by
  unfold execGapEnd
  exact laneEvent_ne_fault fun _ _ _ => next_ne_fault

theorem execPop_ne_fault {v : Word} : execPop v s ≠ .fault f := by
  unfold execPop
  exact hostWrite_ne_fault fun _ => by split <;> nofun

theorem execTickDivWrite_ne_fault {v : Word} : execTickDivWrite v s ≠ .fault f := by
  unfold execTickDivWrite
  exact hostWrite_ne_fault fun _ => by split <;> nofun

theorem execTableSelectWrite_ne_fault {v : Word} : execTableSelectWrite v s ≠ .fault f := by
  unfold execTableSelectWrite
  exact hostWrite_ne_fault fun _ => by split <;> nofun

theorem execHeadInfoRead_ne_fault : execHeadInfoRead s ≠ .fault f := by
  unfold execHeadInfoRead
  exact hostRead_ne_fault

theorem execTimeHiRead_ne_fault : execTimeHiRead s ≠ .fault f := by
  unfold execTimeHiRead
  exact hostRead_ne_fault

theorem execTableDataRead_ne_fault : execTableDataRead s ≠ .fault f := by
  unfold execTableDataRead
  exact hostRead_ne_fault

/-- A transaction in HOLD has its outcome, so the end of HOLD has something to deliver (R125). -/
theorem execHoldEnd_ne_fault {l : LaneNo} (hs : LaneLaw (settleDues s)) : execHoldEnd l s ≠ .fault f := by
  unfold execHoldEnd
  refine laneEvent_ne_fault fun x hx hp => ?_
  obtain ⟨_, _, _, _, hending, _⟩ := hs l
  have hend := hending x hx hp
  split
  · next h => exact absurd h hend
  · nofun

theorem execDeselectEnd_ne_fault {l : LaneNo} : execDeselectEnd l s ≠ .fault f := by
  unfold execDeselectEnd
  refine laneEvent_ne_fault fun x _ _ => ?_
  dsimp only
  split <;> nofun

/-- Settles O60: the answers that fault need a mark with no command in flight or a HOLD with no outcome, which the laws
exclude also after the tick in progress. -/
theorem noCommandFaults : Obligations.NoCommandFaults := by
  intro c s f hmember hflight hlane
  have hu : FlightLaw (settleDues s) :=
    ((settleDues_events s).keep Event.keeps_flightLaws ⟨hmember, hflight⟩).2
  have hl : LaneLaw (settleDues s) := (settleDues_events s).keep Event.keeps_laneLaw hlane
  cases c with
  | powerOnReset => nofun
  | resetRelease => exact execResetRelease_ne_fault
  | tick => exact execTick_ne_fault
  | due n => exact execDue_ne_fault
  | startScan a => exact hostCommand_ne_fault hu fun u _ _ => startScanOwner_ne_ruledOut u
  | stopScan a => exact hostCommand_ne_fault hu fun u _ _ => stopScanOwner_ne_ruledOut u
  | entryEnable a => exact hostCommand_ne_fault hu fun u _ _ => entryEnableOwner_ne_ruledOut a u
  | entryStop a => exact hostCommand_ne_fault hu fun _ => entryStopOwner_ne_ruledOut a
  | entryRearm a => exact hostCommand_ne_fault hu fun u _ _ => entryRearmOwner_ne_ruledOut a u
  | laneHold a => exact hostCommand_ne_fault hu fun _ => laneHoldOwner_ne_ruledOut a
  | laneRelease a => exact hostCommand_ne_fault hu fun _ => laneReleaseOwner_ne_ruledOut a
  | laneReset a => exact hostCommand_ne_fault hu fun u _ _ => laneResetOwner_ne_ruledOut a u
  | directSubmit a => exact hostCommand_ne_fault hu fun u _ _ => directSubmitOwner_ne_ruledOut a u
  | directCancel a => exact hostCommand_ne_fault hu fun u _ _ => directCancelOwner_ne_ruledOut a u
  | directRelease a => exact hostCommand_ne_fault hu fun u _ _ => directReleaseOwner_ne_ruledOut a u
  | queueFlush a => exact hostCommand_ne_fault hu fun u _ _ => queueFlushOwner_ne_ruledOut u
  | unknownCommand w => exact execUnknownCommand_ne_fault
  | setupEnd l r => exact execSetupEnd_ne_fault
  | readyObserved l k => exact execReadyObserved_ne_fault
  | readyTimeout l => exact execReadyTimeout_ne_fault
  | wordEnd l b r => exact execWordEnd_ne_fault
  | gapEnd l r => exact execGapEnd_ne_fault
  | holdEnd l => exact execHoldEnd_ne_fault hl
  | deselectEnd l => exact execDeselectEnd_ne_fault
  | headInfoRead => exact execHeadInfoRead_ne_fault
  | timeHiRead => exact execTimeHiRead_ne_fault
  | tableDataRead => exact execTableDataRead_ne_fault
  | pop v => exact execPop_ne_fault (v := v)
  | tickDivWrite v => exact execTickDivWrite_ne_fault
  | tableSelectWrite v => exact execTableSelectWrite_ne_fault
  | registerWrite a v => exact execRegisterWrite_ne_fault
  | softReset a => exact hostWrite_ne_fault fun _ => next_ne_fault
  | queueLevelWrite v => exact hostWrite_ne_fault fun _ => next_ne_fault
  | ageLimitWrite v => exact hostWrite_ne_fault fun _ => next_ne_fault
  | irqCauseWrite v => exact hostWrite_ne_fault fun _ => next_ne_fault
  | irqEnableWrite v => exact hostWrite_ne_fault fun _ => next_ne_fault
  | tableOffsetWrite v => exact hostWrite_ne_fault fun _ => next_ne_fault
  | tableDataWrite v => exact hostWrite_ne_fault fun _ => next_ne_fault

/-! ### The commands that wait -/

theorem Moves.pending_eq (h : Moves s t) : t.pending = s.pending := by
  cases h with
  | finishes l x o ht hi =>
    rcases handOver_cases x o (s.modLane l released) with
      ⟨n, _, _, h⟩ | ⟨n, _, _, h⟩ | ⟨n, _, _, _, h⟩ | ⟨k, w, _, _, h⟩ | ⟨k, _, _, h⟩
    · rw [h, pending_completeFlight]; rfl
    · rw [h]; rfl
    · rw [h]; rfl
    · rw [h, pending_completeFlight, pending_notifyDirect]; rfl
    · rw [h, pending_completeFlight]; rfl
  | holdsAtLast l hm hp => rw [pending_completeFlight]; rfl
  | withdraws k hs => unfold cancelQueued; dsimp only; rw [pending_notifyDirect]; rfl
  | _ => rfl

theorem Passes.pending_eq (h : Passes s t) : t.pending = s.pending := by cases h <;> rfl

theorem Event.pending_eq (h : Event s t) : t.pending = s.pending := by
  cases h with
  | other h => exact h.pending
  | reports h => rw [h.frame]
  | passes h => exact h.pending_eq
  | moves h => exact h.pending_eq
  | powersOn => rfl
  | softResets arg => rfl

/-- Settles O3: no elementary event touches the commands that wait. -/
theorem commandsLeaveTheQueueAlone : Obligations.CommandsLeaveTheQueueAlone :=
  fun _ s _ h =>
    (exec_events h).keep (P := fun u => u.pending = s.pending) (fun he hu => he.pending_eq.trans hu) rfl

/-! ### A step -/

/-- Settles O1. -/
theorem stepRunsTheFrontCommand : Obligations.StepRunsTheFrontCommand := by
  intro c rest s h
  simp only [step, h]

theorem clockPeriod_settled (h : s.Settled) :
    clockPeriod s =
      { s with
        sched := { s.sched with interval := s.sched.interval.map clockInterval }
        lanes := mapTable clockLane s.lanes } := by
  simp [clockPeriod, h.1, settleDues_nil h.2]

/-- Settles O2: a step with nothing waiting is one CLKIN period of the interval and of every lane. -/
theorem emptyQueueLetsOneClockPeriodPass : Obligations.EmptyQueueLetsOneClockPeriodPass := by
  intro s hp hs
  have hstep : step s = .next (clockPeriod s) := by simp only [step, hp]
  refine ⟨_, hstep, fun l => ?_, ?_, ?_⟩
  · rw [clockPeriod_settled hs]
    exact getElem_mapTable ..
  · rw [clockPeriod_settled hs]
    rfl
  · rw [clockPeriod_settled hs]

/-! ### The tick in progress -/

/-- A due does not look at the scheduler. -/
theorem handleDue_sched (n : EntryNo) (x : Scheduler) (s : State) :
    handleDue n { s with sched := x } = { handleDue n s with sched := x } := by
  unfold handleDue
  simp only [entry_mk, lane_mk]
  cases (s.entry n).run.state with
  | wait =>
    by_cases hq : (s.lane (s.entry n).cfg.lane).queue.length < Config.laneQueueSize
    · simp only [hq, if_true]; rfl
    · simp only [hq, if_false]; rfl
  | _ => rfl

/-- The state after the row of the first outstanding due (R84, R86). -/
def afterDue (d : EntryNo) (ds : List EntryNo) (s : State) : State :=
  let t := handleDue d { s with sched := { s.sched with dues := ds } }
  if ds = [] then wakeArbiters t else t

theorem execDue_first {d : EntryNo} {ds : List EntryNo} (hr : s.inReset = false) (hd : s.sched.dues = d :: ds) :
    execDue d s = .next (afterDue d ds s) := by
  cases ds <;> simp [execDue, hr, hd, afterDue]

theorem sched_afterDue (d : EntryNo) (ds : List EntryNo) (s : State) :
    (afterDue d ds s).sched = { s.sched with dues := ds } := by
  unfold afterDue
  dsimp only
  split
  · rw [wakeArbiters_frame, handleDue_frame]
  · rw [handleDue_frame]

theorem inReset_afterDue (d : EntryNo) (ds : List EntryNo) (s : State) :
    (afterDue d ds s).inReset = s.inReset := by
  unfold afterDue
  dsimp only
  split
  · rw [wakeArbiters_frame, handleDue_frame]
  · rw [handleDue_frame]

/-- After the first due the rest of the tick is as it was (R84, R86). -/
theorem settleDues_afterDue {d : EntryNo} {ds : List EntryNo} (hd : s.sched.dues = d :: ds) :
    settleDues (afterDue d ds s) = settleDues s := by
  have hall : settleDues s = wakeArbiters
      ((d :: ds).foldl (fun s n => handleDue n s) { s with sched := { s.sched with dues := [] } }) := by
    simp only [settleDues, hd]
  rw [hall, List.foldl_cons]
  cases ds with
  | nil =>
    rw [settleDues_nil (by rw [sched_afterDue])]
    rfl
  | cons e es =>
    have hrest : (afterDue d (e :: es) s).sched.dues = e :: es := by rw [sched_afterDue]
    have hfirst : afterDue d (e :: es) s = handleDue d { s with sched := { s.sched with dues := e :: es } } := rfl
    have hall : { afterDue d (e :: es) s with sched := { (afterDue d (e :: es) s).sched with dues := [] } } =
        handleDue d { s with sched := { s.sched with dues := [] } } := by
      rw [hfirst, handleDue_sched d { s.sched with dues := e :: es }, handleDue_sched d { s.sched with dues := [] }]
    simp only [settleDues, hrest]
    rw [hall]

/-! ### Every command is taken after the tick in progress -/

/-- A command but DUE sees a state only through the end of its tick (log entry 5). -/
theorem exec_congr {c : Instr} {u : State} (hc : ∀ n, c ≠ .due n) (hr : s.inReset = false) (hu : u.inReset = false)
    (h : settleDues u = settleDues s) : exec c s = exec c u := by
  cases c with
  | due n => exact absurd rfl (hc n)
  | powerOnReset =>
    have hp : u.pending = s.pending := by rw [← settleDues_pending u, h, settleDues_pending]
    have hf : u.freeCount = s.freeCount := by rw [← settleDues_freeCount u, h, settleDues_freeCount]
    simp only [exec, execPowerOnReset, hp, hf]
  | _ =>
    simp only [exec, execResetRelease, execTick, execStartScan, execStopScan, execEntryEnable, execEntryStop,
      execEntryRearm, execLaneHold, execLaneRelease, execLaneReset, execDirectSubmit,
      execDirectCancel, execDirectRelease, execQueueFlush, execSoftReset, execUnknownCommand,
      execSetupEnd, execReadyObserved, execReadyTimeout, execWordEnd, execGapEnd, execHoldEnd,
      execDeselectEnd, execHeadInfoRead, execPop, execTimeHiRead, execTickDivWrite,
      execQueueLevelWrite, execAgeLimitWrite, execIrqCauseWrite, execIrqEnableWrite,
      execTableSelectWrite, execTableOffsetWrite, execTableDataRead, execTableDataWrite,
      execRegisterWrite, hostCommand, hostWrite, hostRead, hostAccess, laneEvent, Bool.false_eq_true, if_false, hr, hu,
      h]

/-- Settles O4. -/
theorem everyCommandFollowsTheTickInProgress : Obligations.EveryCommandFollowsTheTickInProgress := by
  intro c d ds s hc hr hd
  refine ⟨afterDue d ds s, execDue_first hr hd, by rw [sched_afterDue], ?_⟩
  exact exec_congr hc hr (by rw [inReset_afterDue, hr]) (settleDues_afterDue hd)

end Sys2Proof.Machine
end

section
/-! SUPPORT. How a command word is answered in a state between two events, and the commands of the scheduler, the
entries and the command unit. -/

namespace Sys2Proof.Machine

variable {s : State}

/-! ### Arguments (R157) -/

theorem argEntry_of_eq {a : Byte} {n : EntryNo} (h : a.toNat = n.val) : argEntry a = some n := by
  simp [argEntry, h]

theorem argEntry_of_ge {a : Byte} (h : 64 ≤ a.toNat) : argEntry a = none := by
  simp [argEntry, Nat.not_lt.2 h]

theorem argLane_of_eq {a : Byte} {l : LaneNo} (h : a.toNat = l.val) : argLane a = some l := by
  simp [argLane, h]

theorem argLane_of_ge {a : Byte} (h : 4 ≤ a.toNat) : argLane a = none := by
  simp [argLane, Nat.not_lt.2 h]

theorem argSlot_of_eq {a : Byte} {k : SlotNo} (h : a.toNat = k.val) : argSlot a = some k := by
  simp [argSlot, h]

theorem argSlot_of_ge {a : Byte} (h : 4 ≤ a.toNat) : argSlot a = none := by
  simp [argSlot, Nat.not_lt.2 h]

/-! ### The three answers (R157, R158, R159) -/

section
variable {code arg : Byte} {owner : State → CmdAnswer}

theorem hostCommand_completed {u : State} (hs : s.Ready)
    (h : owner { s with port := undriven s.port } = .completed u) :
    hostCommand code arg owner s = .next { u with cmd := acceptedOk u.cmd code arg } := by
  obtain ⟨hsettled, hnone⟩ := hs
  rw [hostCommand, hostWrite_settled hsettled, takeCommand_ready (s := { s with port := undriven s.port }) hnone, h]

theorem hostCommand_refused {r : CmdResult} (hs : s.Ready)
    (h : owner { s with port := undriven s.port } = .refused r) :
    hostCommand code arg owner s = .next { s with cmd := refusedWith s.cmd r, port := undriven s.port } := by
  obtain ⟨hsettled, hnone⟩ := hs
  rw [hostCommand, hostWrite_settled hsettled, takeCommand_ready (s := { s with port := undriven s.port }) hnone, h]

theorem hostCommand_inFlight {f : InFlight} {u : State} (hs : s.Ready)
    (h : owner { s with port := undriven s.port } = .inFlight f u) :
    hostCommand code arg owner s = .next { u with cmd := acceptedInFlight u.cmd code arg f } := by
  obtain ⟨hsettled, hnone⟩ := hs
  rw [hostCommand, hostWrite_settled hsettled, takeCommand_ready (s := { s with port := undriven s.port }) hnone, h]

end

/-! ### The scheduler -/

theorem startScanOwner_stopped (h : s.sched.running = false) :
    startScanOwner s = .completed { s with sched := { s.sched with running := true } } := by
  simp [startScanOwner, h]

theorem startScanOwner_running (h : s.sched.running = true) : startScanOwner s = .refused .badState := by
  simp [startScanOwner, h]

theorem stopScanOwner_stopped (h : s.sched.running = false) : stopScanOwner s = .refused .badState := by
  simp [stopScanOwner, h]

/-- STOP_SCAN on the part (R82, R13). -/
def stopScan (s : State) : State :=
  { s with
    sched := { s.sched with running := false }
    lanes := mapTable (fun L => { L with queue := [] }) s.lanes }.mapRuns fun e => unqueue e.run

theorem stopScanOwner_running (h : s.sched.running = true) : stopScanOwner s = .completed (stopScan s) := by
  simp [stopScanOwner, h, stopScan]

theorem entry_stopScan (s : State) (n : EntryNo) :
    (stopScan s).entry n =
      if (s.entry n).run.state = .queued then { s.entry n with run := { (s.entry n).run with state := .wait } }
      else s.entry n := by
  unfold stopScan
  rw [entry_mapRuns]
  by_cases h : (s.entry n).run.state = .queued
  · simp [unqueue, h]
  · simp [unqueue, h]

theorem lane_stopScan (s : State) (l : LaneNo) : (stopScan s).lane l = { s.lane l with queue := [] } :=
  getElem_mapTable ..

/-- Settles O10. -/
theorem startScanAndStopScan : Obligations.StartScanAndStopScan := by
  intro a s hs
  refine ⟨fun h => ?_, fun h => ?_, fun h => ?_, fun h => ?_⟩
  · exact hostCommand_completed hs (startScanOwner_stopped h)
  · exact hostCommand_refused hs (startScanOwner_running h)
  · exact hostCommand_refused hs (stopScanOwner_stopped h)
  · refine ⟨_, hostCommand_completed hs (stopScanOwner_running h), fun n => ?_, fun l => ?_, rfl⟩
    · exact entry_stopScan _ n
    · exact lane_stopScan _ l

/-! ### Entry commands -/

section
variable {a : Byte} {n : EntryNo}

theorem entryEnableOwner_accepts (ha : argEntry a = some n) (hoff : (s.entry n).run.state = .off)
    (hv : (s.entry n).cfg.valid (s.profile (s.entry n).cfg.profile) = true) :
    entryEnableOwner a s =
      .completed (raiseUse (s.entry n).cfg.profile (s.modRun n fun _ => enabledRun (s.entry n).cfg)) := by
  simp [entryEnableOwner, ha, hoff, hv]

theorem entryStopOwner_off (ha : argEntry a = some n) (h : (s.entry n).run.state = .off) :
    entryStopOwner a s = .completed s := by
  simp [entryStopOwner, ha, h]

/-- An entry in WAIT or QUEUED leaves its lane queue, if it is in one, and reaches OFF (R17, R18). -/
def stopAtOnce (n : EntryNo) (s : State) : State :=
  reachOff n
    (if (s.entry n).run.state = .queued then
      s.modLane (s.entry n).cfg.lane fun L => { L with queue := L.queue.erase n }
    else s)

theorem entryStopOwner_waiting (ha : argEntry a = some n)
    (h : (s.entry n).run.state = .wait ∨ (s.entry n).run.state = .queued) :
    entryStopOwner a s = .completed (stopAtOnce n s) := by
  rcases h with h | h <;> simp [entryStopOwner, ha, h, stopAtOnce]

theorem entryStopOwner_active (ha : argEntry a = some n) (h : (s.entry n).run.state = .active) :
    entryStopOwner a s = .inFlight (.entryStop n) (s.modRun n fun r => { r with state := .stopping }) := by
  simp [entryStopOwner, ha, h]

theorem stopAtOnce_frame (n : EntryNo) (s : State) :
    stopAtOnce n s =
      { s with
        entries := (stopAtOnce n s).entries, lanes := (stopAtOnce n s).lanes
        profiles := (stopAtOnce n s).profiles } := by
  unfold stopAtOnce
  split <;> rfl

theorem entry_stopAtOnce (n m : EntryNo) (s : State) :
    (stopAtOnce n s).entry m =
      if m = n then
        { s.entry n with run := { (s.entry n).run with state := .off, pending := .none, overwritten := false } }
      else s.entry m := by
  unfold stopAtOnce
  by_cases h : (s.entry n).run.state = .queued <;> simp [h, eq_comm]

theorem lane_stopAtOnce (n : EntryNo) (l : LaneNo) (s : State) :
    (stopAtOnce n s).lane l =
      if l = (s.entry n).cfg.lane ∧ (s.entry n).run.state = .queued then
        { s.lane l with queue := (s.lane l).queue.erase n }
      else s.lane l := by
  unfold stopAtOnce
  by_cases h : (s.entry n).run.state = .queued
  · rcases eq_or_ne l (s.entry n).cfg.lane with rfl | hl
    · simp [h]
    · simp [h, hl, hl.symm]
  · simp [h]

theorem profile_stopAtOnce (n : EntryNo) (p : ProfileNo) (s : State) :
    (stopAtOnce n s).profile p =
      if p = (s.entry n).cfg.profile then { s.profile p with useCount := (s.profile p).useCount - 1 }
      else s.profile p := by
  unfold stopAtOnce
  rcases eq_or_ne p (s.entry n).cfg.profile with rfl | hp
  · by_cases h : (s.entry n).run.state = .queued <;> simp [h]
  · by_cases h : (s.entry n).run.state = .queued <;> simp [h, hp, hp.symm]

theorem entryRearmOwner_off (ha : argEntry a = some n)
    (h : (s.entry n).run.state = .off ∨ (s.entry n).run.health ≠ .faulted) :
    entryRearmOwner a s = .refused .badState := by
  rcases h with h | h
  · simp [entryRearmOwner, ha, h]
  · by_cases hoff : (s.entry n).run.state = .off <;> simp [entryRearmOwner, ha, h, hoff]

theorem entryRearmOwner_faulted (ha : argEntry a = some n) (hoff : (s.entry n).run.state ≠ .off)
    (h : (s.entry n).run.health = .faulted) : entryRearmOwner a s = .completed (s.modRun n rearm) := by
  simp [entryRearmOwner, ha, h, hoff]

theorem rearm_eq (r : EntryRun) :
    rearm r =
      { r with
        health := .good, failRun := 0
        pending := if r.pending = .fault then .none else r.pending
        overwritten := if r.pending = .fault then false else r.overwritten } := by
  cases h : r.pending <;> simp [rearm, h]

end

/-- Settles O11. -/
theorem entryEnableStartsTheEntry : Obligations.EntryEnableStartsTheEntry := by
  intro a n s hs ha hoff hv
  refine ⟨_, hostCommand_completed hs (entryEnableOwner_accepts (argEntry_of_eq ha) hoff hv),
    fun m => ?_, fun p => ?_, rfl⟩
  · rcases eq_or_ne m n with rfl | hm
    · simp [enabledRun, EntryRun.powerOn]
    · simp [hm, hm.symm]
  · rcases eq_or_ne p (s.entry n).cfg.profile with rfl | hp
    · simp
    · simp [hp, hp.symm]

/-- Settles O12, by the states of R18 and R19. -/
theorem entryStopByTheEntrysState : Obligations.EntryStopByTheEntrysState := by
  intro a n s hs ha
  have harg := argEntry_of_eq ha
  refine ⟨fun h => ?_, fun h => ?_, fun h => ?_⟩
  · exact hostCommand_completed hs (entryStopOwner_off harg h)
  · refine ⟨_, hostCommand_completed hs (entryStopOwner_waiting harg h), fun m => ?_, fun l => ?_, fun p => ?_, ?_⟩
    · exact entry_stopAtOnce n m _
    · exact lane_stopAtOnce n l _
    · exact profile_stopAtOnce n p _
    · rw [stopAtOnce_frame]
  · refine ⟨_, hostCommand_inFlight hs (entryStopOwner_active harg h), fun m => ?_, rfl⟩
    rcases eq_or_ne m n with rfl | hm
    · simp
    · simp [hm, hm.symm]

/-- Settles O13. -/
theorem entryRearmClearsTheFault : Obligations.EntryRearmClearsTheFault := by
  intro a s hs
  refine ⟨fun ha => ?_, fun n ha => ?_⟩
  · exact hostCommand_refused hs (by simp [entryRearmOwner, argEntry_of_ge ha])
  · have harg := argEntry_of_eq ha
    refine ⟨fun h => ?_, fun hoff h => ?_⟩
    · exact hostCommand_refused hs (entryRearmOwner_off harg h)
    · refine ⟨_, hostCommand_completed hs (entryRearmOwner_faulted harg hoff h), fun m => ?_, rfl⟩
      rcases eq_or_ne m n with rfl | hm
      · simp [rearm_eq]
      · simp [hm, hm.symm]

/-! ### The Change Queue and the command unit -/

theorem flushRun_eq (r : EntryRun) :
    flushRun r =
      { r with
        pending := .none, overwritten := false
        base := if r.state ≠ .off ∧ r.primed = true then r.last else r.base
        bzone := if r.state ≠ .off ∧ r.primed = true then r.czone else r.bzone } := by
  unfold flushRun
  by_cases h : r.state ≠ .off ∧ r.primed = true <;> simp [h]

/-- With no record neither term of the QUEUE condition holds (R74). -/
theorem queueCondition_of_empty (h : s.queue.records = []) : queueCondition s = false := by
  simp [queueCondition, levelTerm, ageTerm, h]

/-- Settles O20. -/
theorem queueFlushStartsReportingAfresh : Obligations.QueueFlushStartsReportingAfresh := by
  intro a s hs
  refine ⟨_, hostCommand_completed hs rfl, fun n => ?_, queueCondition_of_empty rfl, rfl⟩
  exact (entry_mapRuns ..).trans (by rw [flushRun_eq]; rfl)

/-- Settles O21. -/
theorem softResetKeepsTheConfiguration : Obligations.SoftResetKeepsTheConfiguration := by
  intro a s hs
  have hexec : execSoftReset a s = .next (softReset a { s with port := undriven s.port }) := by
    rw [execSoftReset, hostWrite_settled hs]
  have hqueue : queueCondition (softReset a { s with port := undriven s.port }) = false :=
    queueCondition_of_empty rfl
  refine ⟨_, hexec, fun n => ?_, fun p => ?_, fun l => ?_, fun k => ?_, rfl, hqueue, ?_, ?_⟩
  · exact getElem_mapTable ..
  · exact getElem_mapTable ..
  · exact getElem_mapTable ..
  · exact getElem_mapTable ..
  · rw [State.irqLow, hqueue]
    simp [softReset]
  · obtain ⟨_, hdues⟩ := hs
    simp [softReset, newInterval, Config.tickUnit, hdues]

theorem execUnknownCommand_ready {w : Word} (hw : w.extractLsb' 8 8 ∉ definedCodes) (hs : s.Ready) :
    execUnknownCommand w s = .next { s with cmd := refusedWith s.cmd .unknown, port := undriven s.port } := by
  obtain ⟨hsettled, hnone⟩ := hs
  unfold execUnknownCommand
  rw [hasDefinedCode_undefined hw, if_neg Bool.false_ne_true, hostWrite_settled hsettled]
  simp only [hnone, refusedWith]

/-- Settles O22. -/
theorem unknownCommandIsRefused : Obligations.UnknownCommandIsRefused :=
  fun _ _ hw hs => execUnknownCommand_ready hw hs

/-- Settles O24: each owner's tests in their order. -/
theorem ownersRefuseInOrder : Obligations.OwnersRefuseInOrder := by
  intro a s hs
  dsimp only
  refine ⟨fun ha => ?_, fun ha => ?_, fun n ha => ⟨fun h => ?_, fun h hv => ?_⟩, fun l ha => ⟨fun h => ?_, fun h => ?_⟩,
    fun k ha => ⟨fun h => ?_, fun h hbad => ?_, fun hq hr => ?_⟩⟩
  · have harg := argEntry_of_ge ha
    simp only [List.forall_mem_cons]
    refine ⟨hostCommand_refused hs ?_, hostCommand_refused hs ?_, by simp⟩
    · simp [entryEnableOwner, harg]
    · simp [entryStopOwner, harg]
  · have hlane := argLane_of_ge ha
    have hslot := argSlot_of_ge ha
    simp only [List.forall_mem_cons]
    refine ⟨hostCommand_refused hs ?_, hostCommand_refused hs ?_, hostCommand_refused hs ?_,
      hostCommand_refused hs ?_, hostCommand_refused hs ?_, by simp⟩
    · simp [laneHoldOwner, hlane]
    · simp [laneReleaseOwner, hlane]
    · simp [laneResetOwner, hlane]
    · simp [directSubmitOwner, hslot]
    · simp [directCancelOwner, hslot]
  · exact hostCommand_refused hs (by simp [entryEnableOwner, argEntry_of_eq ha, h])
  · exact hostCommand_refused hs (by simp [entryEnableOwner, argEntry_of_eq ha, h, hv])
  · exact hostCommand_refused hs (by simp [laneHoldOwner, argLane_of_eq ha, h])
  · exact hostCommand_refused hs (by simp [laneReleaseOwner, argLane_of_eq ha, h])
  · exact hostCommand_refused hs (by simp [directSubmitOwner, argSlot_of_eq ha, h])
  · refine hostCommand_refused hs ?_
    have hbad : ¬((1 ≤ (s.slot k).req.words.toNat ∧ (s.slot k).req.words.toNat ≤ 8) ∧
        (s.profile (s.slot k).req.profile).valid = true) := by
      rintro ⟨⟨h1, h8⟩, hv⟩
      rcases hbad with h0 | h9 | hv'
      · omega
      · omega
      · simp [hv] at hv'
    simp only [directSubmitOwner, argSlot_of_eq ha, slot_mk, profile_mk, h, ne_eq, not_true_eq_false, if_false, hbad]
  · refine hostCommand_refused hs ?_
    cases hstate : (s.slot k).state with
    | queued => exact absurd hstate hq
    | running => exact absurd hstate hr
    | _ => simp [directCancelOwner, argSlot_of_eq ha, hstate]

end Sys2Proof.Machine
end

section
/-! SUPPORT. The commands of the lanes and of the slots: what their owners answer, and what the arbiter and the start of
a transaction do to each table. -/

namespace Sys2Proof.Machine

variable {s : State}

/-- A choice between the two ways to compare. -/
theorem if_eq_swap {α β : Type} [DecidableEq α] (a b : α) {x y : β} :
    (if a = b then x else y) = if b = a then x else y := by
  by_cases h : a = b
  · rw [if_pos h, if_pos h.symm]
  · rw [if_neg h, if_neg (Ne.symm h)]

/-- The first of its kind is removed from where it stands. -/
theorem erase_first {α : Type} [DecidableEq α] {older later : List α} {k : α} (h : k ∉ older) :
    (older ++ k :: later).erase k = older ++ later := by
  rw [List.erase_append_right _ h, List.erase_cons_head]

/-! ### LANE_HOLD and LANE_RELEASE -/

section
variable {a : Byte} {l : LaneNo}

theorem laneHoldOwner_idle (ha : argLane a = some l) (hm : (s.lane l).mode = .running)
    (hp : (s.lane l).phase = .idle) :
    laneHoldOwner a s = .completed (s.modLane l fun L => { L with mode := .held }) := by
  simp [laneHoldOwner, ha, hm, hp]

theorem laneHoldOwner_busy (ha : argLane a = some l) (hm : (s.lane l).mode = .running)
    (hp : (s.lane l).phase ≠ .idle) :
    laneHoldOwner a s = .inFlight (.laneHold l) (s.modLane l fun L => { L with mode := .holdPending }) := by
  simp [laneHoldOwner, ha, hm, hp]

end

/-- Settles O14. -/
theorem laneHoldByPhase : Obligations.LaneHoldByPhase := by
  intro a l s hs ha hm
  have harg := argLane_of_eq ha
  by_cases hp : (s.lane l).phase = .idle
  · refine ⟨_, hostCommand_completed hs (laneHoldOwner_idle harg hm hp), fun _ => ⟨fun m => ?_, rfl⟩,
      fun h => absurd hp h⟩
    simp [if_eq_swap l m]
  · refine ⟨_, hostCommand_inFlight hs (laneHoldOwner_busy harg hm hp), fun h => absurd h hp,
      fun _ => ⟨fun m => ?_, rfl⟩⟩
    simp [if_eq_swap l m]

theorem idleLevel_eq (line : LineProfile) : idleLevel line = decide (2 ≤ line.clockMode.val) := rfl

/-! ### What the arbiter's choice leaves of the other lanes -/

theorem lane_takeSlot_of_ne {l m : LaneNo} {k : SlotNo} (h : m ≠ l) : (takeSlot l k s).lane m = s.lane m := by
  rw [lane_takeSlot, if_neg (Ne.symm h)]

theorem lane_takeSlot_same (l : LaneNo) (k : SlotNo) :
    (takeSlot l k s).lane l =
      begun (.slot k) (s.slot k).req.select (s.profile (s.slot k).req.profile).line
        (s.slot k).req.words.toNat { s.lane l with streak := min 4 ((s.lane l).streak + 1) } := by
  rw [lane_takeSlot, if_pos rfl]

theorem lane_takeEntry_of_ne {l m : LaneNo} {n : EntryNo} {q : List EntryNo} (h : m ≠ l) :
    (takeEntry l n q s).lane m = s.lane m := by
  rw [lane_takeEntry, if_neg (Ne.symm h)]

theorem lane_takeEntry_same (l : LaneNo) (n : EntryNo) (q : List EntryNo) :
    (takeEntry l n q s).lane l =
      begun (.entry n) (s.entry n).cfg.select (s.profile (s.entry n).cfg.profile).line
        ((s.entry n).cfg.cmdCount.toNat + (s.entry n).cfg.respCount.toNat)
        { s.lane l with queue := q, streak := 0 } := by
  rw [lane_takeEntry, if_pos rfl]

theorem direct_takeSlot (l : LaneNo) (k : SlotNo) :
    (takeSlot l k s).direct =
      { s.direct with
        slots := (takeSlot l k s).direct.slots, waiting := s.direct.waiting.erase k } := rfl

/-- A lane made RUNNING, before its arbiter decides (R114). -/
def makeRunning (l : LaneNo) (s : State) : State := s.modLane l fun L => { L with mode := .running }

@[simp] theorem lane_makeRunning (l m : LaneNo) (s : State) :
    (makeRunning l s).lane m = if l = m then { s.lane l with mode := .running } else s.lane m :=
  lane_modLane ..

section
variable {l : LaneNo}

theorem arbitrate_makeRunning_none (hq : (s.lane l).queue = []) (hw : ∀ k ∈ s.direct.waiting, (s.slot k).req.lane ≠ l) :
    arbitrate l (makeRunning l s) = makeRunning l s :=
  arbitrate_of_none_waiting _ (by simpa using hq) hw

theorem arbitrate_makeRunning_entry {n : EntryNo} {q : List EntryNo} (hp : (s.lane l).phase = .idle)
    (hq : (s.lane l).queue = n :: q)
    (hw : (∀ k ∈ s.direct.waiting, (s.slot k).req.lane ≠ l) ∨ (s.lane l).streak = 4) :
    arbitrate l (makeRunning l s) = takeEntry l n q (makeRunning l s) := by
  refine arbitrate_takes_entry _ (by simp) (by simpa using hp) (by simpa using hq) (hw.symm.imp_left fun h => ?_)
  simpa using h

theorem arbitrate_makeRunning_slot {older later : List SlotNo} {k : SlotNo} (hp : (s.lane l).phase = .idle)
    (hwait : s.direct.waiting = older ++ k :: later) (holder : ∀ j ∈ older, (s.slot j).req.lane ≠ l)
    (hk : (s.slot k).req.lane = l) (hstreak : (s.lane l).streak < 4 ∨ (s.lane l).queue = []) :
    arbitrate l (makeRunning l s) = takeSlot l k (makeRunning l s) :=
  arbitrate_takes_slot _ (by simp) (by simpa using hp) (waitingSlot_oldest _ hwait holder hk) (by simpa using hstreak)

theorem laneReleaseOwner_held {a : Byte} {u : State} (ha : argLane a = some l) (hm : (s.lane l).mode = .held)
    (h : arbitrate l (makeRunning l s) = u) : laneReleaseOwner a s = .completed u := by
  simp [laneReleaseOwner, ha, hm, ← h, makeRunning]

end

/-- Settles O15: nothing waits, the head of the queue is taken, or the oldest slot of the lane is. -/
theorem laneReleaseLetsTheArbiterDecide : Obligations.LaneReleaseLetsTheArbiterDecide := by
  intro a l s hs ha hm
  have harg := argLane_of_eq ha
  dsimp only
  refine ⟨fun hq hw => ?_, fun n q hp hq hw => ?_, fun older later k hp hwait holder hnew hk hstreak => ?_⟩
  · refine ⟨_, hostCommand_completed hs (laneReleaseOwner_held harg hm (arbitrate_makeRunning_none hq hw)),
      fun m => ?_, rfl⟩
    simp [if_eq_swap l m]
  · refine ⟨_, hostCommand_completed hs (laneReleaseOwner_held harg hm (arbitrate_makeRunning_entry hp hq hw)),
      fun m => ?_, fun m hml => ?_, ?_, rfl⟩
    · exact (entry_takeEntry ..).trans (by rw [if_eq_swap]; rfl)
    · exact (lane_takeEntry_of_ne hml).trans (by simp [Ne.symm hml])
    · refine (lane_takeEntry_same ..).trans ?_
      simp [begun, idleLevel_eq, makeRunning]
  · refine ⟨_, hostCommand_completed hs
      (laneReleaseOwner_held harg hm (arbitrate_makeRunning_slot hp hwait holder hk hstreak)),
      fun j => ?_, ?_, fun m hml => ?_, ?_, rfl⟩
    · exact (slot_takeSlot _ l k j).trans (by rw [if_eq_swap]; rfl)
    · refine (direct_takeSlot l k).trans ?_
      simp only [makeRunning, modLane_direct, hwait, erase_first hnew]
    · exact (lane_takeSlot_of_ne hml).trans (by simp [Ne.symm hml])
    · refine (lane_takeSlot_same ..).trans ?_
      simp [begun, idleLevel_eq, makeRunning]

/-! ### DIRECT_SUBMIT -/

section
variable {a : Byte} {k : SlotNo}

theorem directSubmitOwner_accepts (ha : argSlot a = some k) (hfree : (s.slot k).state = .free)
    (h1 : 1 ≤ (s.slot k).req.words.toNat) (h8 : (s.slot k).req.words.toNat ≤ 8)
    (hv : (s.profile (s.slot k).req.profile).valid = true) :
    directSubmitOwner a s = .completed (arbitrate (s.slot k).req.lane (submitSlot k s)) := by
  simp [directSubmitOwner, ha, hfree, h1, h8, hv]

theorem nextOrder_arbitrate (l : LaneNo) (s : State) : (arbitrate l s).direct.nextOrder = s.direct.nextOrder := by
  rcases arbitrate_cases l s with h | ⟨_, _, ⟨j, _, _, h⟩ | ⟨n, q, _, h⟩⟩ <;> rw [h] <;> rfl

theorem profile_arbitrate (l : LaneNo) (s : State) (p : ProfileNo) : (arbitrate l s).profile p = s.profile p := by
  rw [arbitrate_frame]; rfl

theorem cmd_arbitrate (l : LaneNo) (s : State) : (arbitrate l s).cmd = s.cmd := by rw [arbitrate_frame]

theorem port_arbitrate (l : LaneNo) (s : State) : (arbitrate l s).port = s.port := by rw [arbitrate_frame]

theorem lane_arbitrate_submitSlot (l : LaneNo) (hm : (s.lane l).mode = .running) (hp : (s.lane l).phase = .idle)
    (hq : (s.lane l).queue = []) (hw : ∀ j ∈ s.direct.waiting, (s.slot j).req.lane ≠ l) (hnew : k ∉ s.direct.waiting)
    (hk : (s.slot k).req.lane = l) : arbitrate l (submitSlot k s) = takeSlot l k (submitSlot k s) := by
  have hoff : ∀ j ∈ s.direct.waiting, ((submitSlot k s).slot j).req.lane ≠ l := fun j hj => by
    have hkj : k ≠ j := by rintro rfl; exact hnew hj
    rw [slot_submitSlot, if_neg hkj]
    exact hw j hj
  refine arbitrate_takes_slot _ hm hp (waitingSlot_oldest _ (later := []) (waiting_submitSlot k s) hoff ?_) (.inr hq)
  simpa using hk

end

/-- Settles O17. -/
theorem directSubmitQueuesOrStartsTheSlot : Obligations.DirectSubmitQueuesOrStartsTheSlot := by
  intro a k s hs ha hfree h1 h8 hv
  dsimp only
  refine ⟨_, hostCommand_completed hs (directSubmitOwner_accepts (argSlot_of_eq ha) hfree h1 h8 hv), ?_, fun p => ?_,
    ?_, ?_, fun hbusy => ?_, fun hm hp hq hw hnew => ?_⟩
  · exact nextOrder_arbitrate ..
  · refine (profile_arbitrate ..).trans ?_
    rcases eq_or_ne p (s.slot k).req.profile with rfl | hpk
    · simp
    · simp [hpk, Ne.symm hpk]
  · rw [cmd_arbitrate]; rfl
  · exact port_arbitrate ..
  · rw [arbitrate_of_not_ready _ (by exact hbusy)]
    exact ⟨fun j => (slot_submitSlot ..).trans (by rw [if_eq_swap]; rfl), rfl, rfl⟩
  · rw [lane_arbitrate_submitSlot _ (by exact hm) (by exact hp) (by exact hq) (by exact hw) (by exact hnew) (by rfl)]
    refine ⟨fun j => ?_, ?_, fun m => ?_, rfl⟩
    · refine (slot_takeSlot _ (s.slot k).req.lane k j).trans ?_
      rcases eq_or_ne j k with rfl | hj
      · simp
      · simp [hj, Ne.symm hj]
    · exact (erase_first (later := []) hnew).trans (List.append_nil _)
    · refine (lane_takeSlot ..).trans ?_
      rcases eq_or_ne m (s.slot k).req.lane with rfl | hml
      · simp [begun, idleLevel_eq]
      · simp [hml, Ne.symm hml]

/-! ### DIRECT_CANCEL and DIRECT_RELEASE -/

section
variable {a : Byte} {k : SlotNo}

theorem directCancelOwner_queued (ha : argSlot a = some k) (h : (s.slot k).state = .queued) :
    directCancelOwner a s = .completed (cancelQueued k s) := by
  simp [directCancelOwner, ha, h]

theorem directCancelOwner_running (ha : argSlot a = some k) (h : (s.slot k).state = .running) :
    directCancelOwner a s = .inFlight (.directCancel k) (s.modLane (s.slot k).req.lane cancelLane) := by
  simp [directCancelOwner, ha, h]

theorem cancelQueued_frame (k : SlotNo) (s : State) :
    cancelQueued k s =
      { s with
        direct := (cancelQueued k s).direct, profiles := (cancelQueued k s).profiles
        irq := { s.irq with direct := s.irq.direct || (s.slot k).req.notify } } := by
  unfold cancelQueued
  dsimp only
  rw [notifyDirect_eq]
  rfl

theorem direct_cancelQueued (k : SlotNo) (s : State) :
    (cancelQueued k s).direct =
      { s.direct with slots := (cancelQueued k s).direct.slots, waiting := s.direct.waiting.erase k } := by
  simp only [cancelQueued, direct_notifyDirect]
  rfl

theorem directReleaseOwner_final (ha : argSlot a = some k)
    (h : (s.slot k).state = .done ∨ (s.slot k).state = .failed ∨ (s.slot k).state = .cancelled) :
    directReleaseOwner a s = .completed (s.setSlot k { s.slot k with state := .free }) := by
  rcases h with h | h | h <;> simp [directReleaseOwner, ha, h]

theorem directReleaseOwner_other (ha : argSlot a = some k)
    (h : (s.slot k).state = .free ∨ (s.slot k).state = .queued ∨ (s.slot k).state = .running) :
    directReleaseOwner a s = .refused .badState := by
  rcases h with h | h | h <;> simp [directReleaseOwner, ha, h]

end

/-- Settles O18. -/
theorem directCancelByTheSlotsState : Obligations.DirectCancelByTheSlotsState := by
  intro a k s hs ha
  have harg := argSlot_of_eq ha
  refine ⟨fun hk => ?_, fun l x hk hl hx => ?_⟩
  · refine ⟨_, hostCommand_completed hs (directCancelOwner_queued harg hk), fun j => ?_, ?_, fun p => ?_, ?_⟩
    · exact (slot_cancelQueued ..).trans (by rw [if_eq_swap]; rfl)
    · exact direct_cancelQueued k _
    · refine (profile_cancelQueued ..).trans ?_
      rcases eq_or_ne p (s.slot k).req.profile with rfl | hpk
      · simp
      · simp [hpk, Ne.symm hpk]
    · rw [cancelQueued_frame]
      rfl
  · subst hl
    have hlane : (s.modLane (s.slot k).req.lane cancelLane).lane (s.slot k).req.lane =
        cancelLane (s.lane (s.slot k).req.lane) := by simp
    refine ⟨_, hostCommand_inFlight hs (directCancelOwner_running harg hk), fun m hm => ?_, fun hp => ?_, fun hp => ?_,
      fun hp => ?_, fun hp => ?_, fun hp => ?_, rfl⟩
    · exact (lane_modLane ..).trans (by simp [Ne.symm hm])
    · exact hlane.trans (by simp [cancelLane, hx, hp, toHold])
    · exact hlane.trans (by simp [cancelLane, hx, hp, toHold, waitLimit, Config.waitUnit])
    · exact hlane.trans (by simp [cancelLane, hx, hp, toHold])
    · exact hlane.trans (by simp [cancelLane, hx, hp])
    · exact hlane.trans (by simp [cancelLane, hx, hp])

/-- Settles O19. -/
theorem directReleaseFreesAFinishedSlot : Obligations.DirectReleaseFreesAFinishedSlot := by
  intro a s hs
  refine ⟨fun ha => ?_, fun k ha => ⟨fun h => ?_, fun h => ?_⟩⟩
  · exact hostCommand_refused hs (by simp [directReleaseOwner, argSlot_of_ge ha])
  · refine ⟨_, hostCommand_completed hs (directReleaseOwner_final (argSlot_of_eq ha) h), fun j => ?_, rfl⟩
    exact (slot_setSlot ..).trans (by rw [if_eq_swap]; rfl)
  · exact hostCommand_refused hs (directReleaseOwner_other (argSlot_of_eq ha) h)

end Sys2Proof.Machine
end

section
/-! SUPPORT. The events of a lane: the waits and words of a transaction, the end of DESELECT, and its selects. -/

namespace Sys2Proof.Machine

variable {s : State} {l : LaneNo} {x : Txn}

/-! ### Before a word (R121, R122, R124) -/

theorem beforeWord_eq (x : Txn) (rdy : Bool) :
    beforeWord x rdy =
      if x.line.rdyLimit ≠ 0 ∧ (x.wordNo = 0 ∨ x.line.readyPerWord = true) ∧ rdy = (x.line.rdyPolarity == .low) then
        .readyWait
      else .shift := by
  have hready : readyAt x.line rdy = false ↔ rdy = (x.line.rdyPolarity == .low) := by
    unfold readyAt
    cases x.line.rdyPolarity <;> cases rdy <;> decide
  unfold beforeWord
  refine if_congr ?_ rfl rfl
  simp only [Bool.and_eq_true, Bool.not_eq_true', hready]
  simp [waitBefore, and_assoc]

theorem execSetupEnd_settled {rdy : Bool} (hs : s.Settled) (hx : (s.lane l).txn = some x)
    (hp : (s.lane l).phase = .setup) :
    execSetupEnd l rdy s = .next (s.modLane l fun L => { L with phase := beforeWord x rdy, elapsed := 0 }) :=
  laneEvent_settled hs hx hp

theorem execGapEnd_settled {rdy : Bool} (hs : s.Settled) (hx : (s.lane l).txn = some x)
    (hp : (s.lane l).phase = .gap) :
    execGapEnd l rdy s =
      .next
        (s.modLane l fun L =>
          { L with
            phase := beforeWord x rdy, elapsed := 0
            txn := some { x with bitNo := x.bitNo + x.line.wordGap.toNat } }) :=
  laneEvent_settled hs hx hp

/-- Settles O25. -/
theorem setupEndAndGapEnd : Obligations.SetupEndAndGapEnd := by
  intro l rdy x s hs hx
  dsimp only
  rw [← beforeWord_eq]
  exact ⟨fun hp => execSetupEnd_settled hs hx hp, fun hp => execGapEnd_settled hs hx hp⟩

theorem execReadyObserved_settled {k : Nat} (hs : s.Settled) (hx : (s.lane l).txn = some x)
    (hp : (s.lane l).phase = .readyWait) (h1 : 1 ≤ k) (hk : k ≤ waitLimit x.line)
    (he : (s.lane l).elapsed ≤ streamLength x.line x.bitNo k) :
    execReadyObserved l k s =
      .next
        (s.modLane l fun L =>
          { L with phase := .shift, elapsed := 0, txn := some { x with bitNo := x.bitNo + k } }) := by
  unfold execReadyObserved
  rw [laneEvent_settled hs hx hp, if_pos ⟨h1, hk, he⟩]

theorem execReadyTimeout_settled (hs : s.Settled) (hx : (s.lane l).txn = some x)
    (hp : (s.lane l).phase = .readyWait) :
    execReadyTimeout l s =
      .next (s.modLane l (toHold .timeout { x with bitNo := x.bitNo + waitLimit x.line })) :=
  laneEvent_settled hs hx hp

/-- Settles O26. -/
theorem readyWaitEnds : Obligations.ReadyWaitEnds :=
  fun _ _ _ _ hs hx hp =>
    ⟨fun h1 hk he => execReadyObserved_settled hs hx hp h1 hk he, execReadyTimeout_settled hs hx hp⟩

/-! ### The end of a word (R123) -/

theorem captures_iff (s : State) (o : Owner) (w : Nat) :
    captures s o w = true ↔ ∀ n, o = .entry n → (s.entry n).cfg.cmdCount.toNat ≤ w := by
  cases o <;> simp [captures]

theorem execWordEnd_settled {bits : List Bool} {rdy : Bool} (hs : s.Settled) (hx : (s.lane l).txn = some x)
    (hp : (s.lane l).phase = .shift) (hb : bits.length = x.line.wordLen.toNat) :
    execWordEnd l bits rdy s =
      .next
        (s.modLane l fun L =>
          { afterWord (endWord s x bits) rdy L with
            sdoRest := lastBitSent x.line (suppliedWord s x.owner x.wordNo) }) := by
  unfold execWordEnd
  rw [laneEvent_settled hs hx hp, if_pos hb]

/-- The outcome that the end of a word decides (R123, R125, R127). -/
def endingAfter (x : Txn) : Option Ending :=
  if x.wordNo = x.words then some .complete else if x.cancelMark = true then some .cut else x.ending

/-- Where the lane goes at the end of a word (R123). -/
def phaseAfter (x : Txn) (rdy : Bool) : Phase :=
  if x.wordNo = x.words then .hold
  else if x.cancelMark = true then .hold
  else if x.line.wordGap ≠ 0 then .gap
  else beforeWord x rdy

theorem afterWord_eq (x : Txn) (rdy : Bool) (L : Lane) :
    afterWord x rdy L =
      { L with phase := phaseAfter x rdy, elapsed := 0, txn := some { x with ending := endingAfter x } } := by
  unfold afterWord phaseAfter endingAfter
  by_cases hw : x.wordNo = x.words
  · simp [hw, toHold]
  · by_cases hc : x.cancelMark = true
    · simp [hw, hc, toHold]
    · simp only [if_neg hw, if_neg hc]

/-- No word but the first is word 0, so a wait stands there only with one before every word (R102). -/
theorem beforeWord_endWord (s : State) (x : Txn) (bits : List Bool) (rdy : Bool) :
    beforeWord (endWord s x bits) rdy =
      if x.line.rdyLimit ≠ 0 ∧ x.line.readyPerWord = true ∧ rdy = (x.line.rdyPolarity == .low) then .readyWait
      else .shift := by
  rw [beforeWord_eq]
  simp [endWord]

/-- Settles O27. -/
theorem wordEndGoesOn : Obligations.WordEndGoesOn := by
  intro l bits rdy x s hs hx hp hb
  have hlane : ∀ L : Lane, ((s.setLane l L).lane l) = L := fun L => by simp
  refine ⟨_, { endWord s x bits with ending := endingAfter (endWord s x bits) },
    execWordEnd_settled hs hx hp hb, ?_⟩
  rw [State.modLane, hlane, afterWord_eq]
  refine ⟨rfl, rfl, ?_, fun hw => ?_, fun hw hc => ?_, fun hw hc hg => ?_, fun hw hc hg => ?_, rfl, rfl⟩
  · simp only [endWord, captures_iff]
  · simp [phaseAfter, endingAfter, endWord, hw]
  · simp [phaseAfter, endingAfter, endWord, hw, hc]
  · have hgap : ((endWord s x bits).line.wordGap ≠ 0) = True := eq_true hg
    simp only [phaseAfter, endingAfter, hgap, if_true]
    simp [endWord, hw, hc]
  · refine ⟨by simp [endingAfter, endWord, hw, hc], ?_⟩
    rw [← beforeWord_endWord s x bits rdy]
    simp [phaseAfter, endWord, hw, hc, hg]

/-! ### The end of DESELECT (R126) -/

/-- The lane IDLE with its record discarded (R126). -/
def rested (l : LaneNo) (s : State) : State :=
  s.modLane l fun L => { L with phase := .idle, txn := none, elapsed := 0 }

theorem lane_rested_same (l : LaneNo) (s : State) :
    (rested l s).lane l = { s.lane l with phase := .idle, txn := none, elapsed := 0 } := by
  simp [rested]

theorem execDeselectEnd_running (hs : s.Settled) (hx : (s.lane l).txn = some x)
    (hp : (s.lane l).phase = .deselect) (hm : (s.lane l).mode = .running) :
    execDeselectEnd l s = .next (arbitrate l (rested l s)) := by
  unfold execDeselectEnd
  rw [laneEvent_settled hs hx hp]
  have hm' : ((rested l s).lane l).mode = .running := by rw [lane_rested_same]; exact hm
  unfold rested at hm' ⊢
  simp only [hm']

theorem execDeselectEnd_holdPending (hs : s.Settled) (hx : (s.lane l).txn = some x)
    (hp : (s.lane l).phase = .deselect) (hm : (s.lane l).mode = .holdPending) :
    execDeselectEnd l s =
      .next (completeFlight (.laneHold l) .ok ((rested l s).modLane l fun L => { L with mode := .held })) := by
  unfold execDeselectEnd
  rw [laneEvent_settled hs hx hp]
  have hm' : ((rested l s).lane l).mode = .holdPending := by rw [lane_rested_same]; exact hm
  unfold rested at hm' ⊢
  simp only [hm']

/-- Settles O31. -/
theorem deselectEndLeavesTheLaneIdle : Obligations.DeselectEndLeavesTheLaneIdle := by
  intro l x s hs hx hp
  refine ⟨fun hm hq hw => ?_, fun hm hf => ?_⟩
  · have hstay : arbitrate l (rested l s) = rested l s :=
      arbitrate_of_none_waiting _ (by rw [lane_rested_same]; exact hq) hw
    exact (execDeselectEnd_running hs hx hp hm).trans (by rw [hstay]; rfl)
  · have hend : completeFlight (.laneHold l) .ok ((rested l s).modLane l fun L => { L with mode := .held }) = _ :=
      completeFlight_of_eq hf
    refine ⟨_, (execDeselectEnd_holdPending hs hx hp hm).trans (by rw [hend]), fun m => ?_, rfl⟩
    simp only [lane_mk, lane_modLane, rested, if_eq_swap l m, if_true]
    split <;> rfl

/-- Settles O32, by the two cases of R117. -/
theorem arbiterChoosesAtDeselectEnd : Obligations.ArbiterChoosesAtDeselectEnd := by
  intro l x s hs hx hp hm
  have hexec := execDeselectEnd_running hs hx hp hm
  have hm' : ((rested l s).lane l).mode = .running := by rw [lane_rested_same]; exact hm
  have hp' : ((rested l s).lane l).phase = .idle := by rw [lane_rested_same]
  have hq' : ((rested l s).lane l).queue = (s.lane l).queue := by rw [lane_rested_same]
  have hk' : ((rested l s).lane l).streak = (s.lane l).streak := by rw [lane_rested_same]
  refine ⟨fun older later k hwait holder hnew hk hstreak => ?_, fun n q hq hstreak => ?_⟩
  · have htake : arbitrate l (rested l s) = takeSlot l k (rested l s) :=
      arbitrate_takes_slot _ hm' hp' (waitingSlot_oldest _ hwait holder hk) (by rwa [hq', hk'])
    refine ⟨_, hexec.trans (congrArg _ htake), ?_, ?_, fun j hj => ?_, ?_⟩
    · rw [waiting_takeSlot]
      exact (congrArg (·.erase k) hwait).trans (erase_first hnew)
    · simp [slot_takeSlot]
    · rw [slot_takeSlot, if_neg (Ne.symm hj)]; rfl
    · rw [lane_takeSlot_same, ← hq', ← hk']
      exact ⟨rfl, rfl, rfl, rfl, rfl, rfl⟩
  · have htake : arbitrate l (rested l s) = takeEntry l n q (rested l s) :=
      arbitrate_takes_entry _ hm' hp' (by rwa [hq']) (by rwa [hk'])
    refine ⟨_, hexec.trans (congrArg _ htake), rfl, ?_, fun m hmn => ?_, ?_⟩
    · simp [entry_takeEntry]
    · rw [entry_takeEntry, if_neg (Ne.symm hmn)]; rfl
    · rw [lane_takeEntry_same]
      exact ⟨rfl, rfl, rfl, rfl, rfl⟩

/-! ### Selects (R110, R120, R125) -/

theorem inFlight_iff (L : Lane) :
    L.inFlight = true ↔
      L.phase = .setup ∨ L.phase = .readyWait ∨ L.phase = .shift ∨ L.phase = .gap ∨ L.phase = .hold := by
  unfold Lane.inFlight
  cases L.phase <;> simp

theorem inFlight_eq_false_iff (L : Lane) : L.inFlight = false ↔ L.phase = .idle ∨ L.phase = .deselect := by
  unfold Lane.inFlight
  cases L.phase <;> simp

/-- A select output is active exactly for the transaction in flight that has it. -/
theorem selectLevel_active_iff (L : Lane) (i : SelectNo) :
    L.selectLevel i = L.selPolarity.getLsbD i ↔ L.inFlight = true ∧ L.txn.map Txn.select = some i := by
  unfold Lane.selectLevel
  cases L.txn with
  | none => simp
  | some x =>
    by_cases h : L.inFlight = true ∧ x.select = i
    · simp [h.1, h.2]
    · have hoff : (L.inFlight && x.select == i) = false := by simpa using h
      simpa [hoff] using h

/-- With no transaction in flight every select is inactive. -/
theorem selectLevel_inactive {L : Lane} (h : L.inFlight = false) (i : SelectNo) :
    L.selectLevel i = !L.selPolarity.getLsbD i := by
  refine Bool.eq_not_iff.2 fun hact => ?_
  have hfly := ((selectLevel_active_iff L i).1 hact).1
  simp [h] at hfly

/-- Settles O33. -/
theorem atMostOneSelectIsActive : Obligations.AtMostOneSelectIsActive := by
  intro L
  refine ⟨fun i j hi => ?_, fun x hx hp => ?_⟩
  · obtain ⟨hfly, hsel⟩ := (selectLevel_active_iff L i).1 hi
    refine ⟨fun hj => ?_, (inFlight_iff L).1 hfly, hsel⟩
    exact Option.some.inj (hsel.symm.trans ((selectLevel_active_iff L j).1 hj).2)
  · exact (selectLevel_active_iff L x.select).2 ⟨(inFlight_iff L).2 hp, by simp [hx]⟩

end Sys2Proof.Machine
end

section
/-! SUPPORT. The end of a transaction: what an evaluation reaches, what a delivery leaves of the configuration, the
words a slot takes, and the abort by LANE_RESET. -/

namespace Sys2Proof.Machine

variable {s t u : State}

/-! ### What an evaluation reaches -/

/-- Of the part only the runtime part of one entry and the Change Queue change. -/
structure Touches (n : EntryNo) (s t : State) : Prop where
  others : ∀ m, m ≠ n → t.entry m = s.entry m
  cfg : (t.entry n).cfg = (s.entry n).cfg
  frame : t = { s with entries := t.entries, queue := t.queue }

theorem Touches.refl (n : EntryNo) (s : State) : Touches n s s := ⟨fun _ _ => rfl, rfl, rfl⟩

theorem Touches.trans {n : EntryNo} (h : Touches n s t) (h' : Touches n t u) : Touches n s u where
  others m hm := (h'.others m hm).trans (h.others m hm)
  cfg := h'.cfg.trans h.cfg
  frame := h'.frame.trans (by rw [h.frame])

theorem Touches.modRun (n : EntryNo) (f : EntryRun → EntryRun) (s : State) : Touches n s (s.modRun n f) where
  others m hm := by simp [Ne.symm hm]
  cfg := by simp
  frame := rfl

theorem entry_post_of_ne {r : Request} {m : EntryNo} (hm : m ≠ r.entry) (s : State) :
    (post r s).entry m = s.entry m := by
  have hm' := Ne.symm hm
  rcases post_cases r s with ⟨i, _, _, _, h⟩ | ⟨_, h⟩ | ⟨_, h⟩
  · rw [h]; simp [applyReported, hm']
  · rw [h]; simp [applyReported, hm']
  · rw [h]; exact entry_applyDeferred_of_ne hm

theorem Touches.post {n : EntryNo} {r : Request} (hr : r.entry = n) (s : State) : Touches n s (post r s) where
  others _ hm := entry_post_of_ne (hr ▸ hm) s
  cfg := cfg_post ..
  frame := post_frame r s

theorem prime_touches (n : EntryNo) (x : Long) (s : State) : Touches n s (prime n x s) := by
  unfold prime
  dsimp only
  split
  · exact (Touches.modRun n _ s).trans (.post (n := n) rfl _)
  · exact .modRun n _ s

theorem judge_touches (n : EntryNo) (x : Long) (s : State) : Touches n s (judge n x s) := by
  unfold judge
  dsimp only
  split
  · exact (Touches.modRun n _ s).trans (.post (n := n) rfl _)
  · exact .modRun n _ s

theorem recover_touches (n : EntryNo) (x : Long) (s : State) : Touches n s (recover n x s) := by
  unfold recover
  dsimp only
  exact ((Touches.modRun n _ s).trans (.post (n := n) rfl _)).trans (.modRun n _ _)

theorem goodResponse_touches (n : EntryNo) (x : Long) (s : State) : Touches n s (goodResponse n x s) := by
  unfold goodResponse
  split
  · exact recover_touches n x s
  all_goals
    dsimp only
    split
    · exact (Touches.modRun n _ s).trans (judge_touches n x _)
    · exact (Touches.modRun n _ s).trans (prime_touches n x _)

theorem failure_touches (n : EntryNo) (c : FailCause) (s : State) : Touches n s (failure n c s) := by
  unfold failure
  dsimp only
  split
  · exact .modRun n _ s
  all_goals
    split
    · exact (Touches.modRun n _ s).trans (.modRun n _ _)
    · exact ((Touches.modRun n _ s).trans (.modRun n _ _)).trans (.post (n := n) rfl _)

theorem evaluate_touches (n : EntryNo) (c : List (List Bool)) (s : State) : Touches n s (evaluate n c s) := by
  unfold evaluate
  dsimp only
  split
  · exact goodResponse_touches n _ s
  · exact failure_touches n _ s

/-- After its owner is told, a delivery reaches at most one entry and the Change Queue (R12, R26). -/
theorem deliver_touches (x : Txn) (o : TxnOutcome) (s : State) :
    ∃ n, Touches n (handOver x o s) (deliver x o s) := by
  unfold handOver deliver
  cases x.owner with
  | slot k => exact ⟨0, .refl 0 _⟩
  | entry n =>
    refine ⟨n, ?_⟩
    dsimp only
    unfold deliverEntry
    cases (s.entry n).run.state with
    | active =>
      cases o with
      | sample => exact evaluate_touches n _ _
      | fail => exact failure_touches n _ _
      | cut => exact .refl n _
      | aborted => exact .refl n _
    | _ => exact .refl n _

/-! ### The configuration and the end of a transaction -/

/-- Every configuration and request is as it was (R21, R94, R144). -/
structure SameConfig (s t : State) : Prop where
  entry : ∀ n, (t.entry n).cfg = (s.entry n).cfg
  profile : ∀ p, (t.profile p).line = (s.profile p).line ∧ (t.profile p).faultLimit = (s.profile p).faultLimit
  slot : ∀ k, (t.slot k).req = (s.slot k).req

theorem SameConfig.refl (s : State) : SameConfig s s := ⟨fun _ => rfl, fun _ => ⟨rfl, rfl⟩, fun _ => rfl⟩

theorem SameConfig.trans (h : SameConfig s t) (h' : SameConfig t u) : SameConfig s u where
  entry n := (h'.entry n).trans (h.entry n)
  profile p := ⟨(h'.profile p).1.trans (h.profile p).1, (h'.profile p).2.trans (h.profile p).2⟩
  slot k := (h'.slot k).trans (h.slot k)

theorem Touches.sameConfig {n : EntryNo} (h : Touches n s t) : SameConfig s t where
  entry := eq_of_only Entry.cfg n h.cfg h.others
  profile p := by rw [h.frame]; exact ⟨rfl, rfl⟩
  slot k := by rw [h.frame]; rfl

theorem SameConfig.completeFlight (f : InFlight) (r : CmdResult) (h : SameConfig s t) :
    SameConfig s (completeFlight f r t) where
  entry n := by simpa using h.entry n
  profile p := by simpa using h.profile p
  slot k := by simpa using h.slot k

theorem SameConfig.notifyDirect (b : Bool) (h : SameConfig s t) : SameConfig s (notifyDirect b t) where
  entry n := by simpa using h.entry n
  profile p := by simpa using h.profile p
  slot k := by simpa using h.slot k

theorem SameConfig.dropUse (p : ProfileNo) (h : SameConfig s t) : SameConfig s (dropUse p t) where
  entry n := by simpa using h.entry n
  profile q := by
    rw [profile_dropUse]
    split
    · next hpq => subst hpq; exact h.profile p
    · exact h.profile q
  slot k := by simpa using h.slot k

theorem SameConfig.setSlot {k : SlotNo} {x : Slot} (hx : x.req = (s.slot k).req) : SameConfig s (s.setSlot k x) where
  entry _ := rfl
  profile _ := ⟨rfl, rfl⟩
  slot j := by
    rw [slot_setSlot]
    split
    · next hkj => subst hkj; exact hx
    · rfl

theorem handOver_sameConfig (x : Txn) (o : TxnOutcome) (s : State) : SameConfig s (handOver x o s) := by
  rcases handOver_cases x o s with ⟨n, _, _, h⟩ | ⟨n, _, _, h⟩ | ⟨n, _, _, _, h⟩ | ⟨k, w, _, _, h⟩ | ⟨k, _, _, h⟩
  · rw [h]; exact .completeFlight _ _ (.dropUse _ (Touches.modRun n _ s).sameConfig)
  · rw [h]; exact (Touches.modRun n _ s).sameConfig
  · rw [h]; exact .refl s
  · rw [h]; exact .completeFlight _ _ (.notifyDirect _ (.dropUse _ (.setSlot rfl)))
  · rw [h]; exact .completeFlight _ _ (.refl s)

theorem deliver_sameConfig (x : Txn) (o : TxnOutcome) (s : State) : SameConfig s (deliver x o s) := by
  obtain ⟨n, h⟩ := deliver_touches x o s
  exact (handOver_sameConfig x o s).trans h.sameConfig

/-! ### The end of HOLD (R125) -/

theorem execHoldEnd_settled {l : LaneNo} {x : Txn} {e : Ending} (hs : s.Settled) (hx : (s.lane l).txn = some x)
    (hp : (s.lane l).phase = .hold) (he : x.ending = some e) :
    execHoldEnd l s = .next (deliver x e.outcome (s.modLane l released)) := by
  unfold execHoldEnd
  rw [laneEvent_settled hs hx hp]
  simp only [he]
  rfl

/-- The pins of a lane in a state between two events. -/
theorem selectLevel_settled (h : t.sched.dues = []) (l : LaneNo) (i : SelectNo) :
    t.selectLevel l i = (t.lane l).selectLevel i := by
  rw [State.selectLevel, settleDues_nil h]

/-- Settles O28. -/
theorem holdEndReleasesTheSelect : Obligations.HoldEndReleasesTheSelect := by
  intro l x e s hs hx hp he
  have hdues : s.sched.dues = [] := hs.2
  have hframe := deliver_frame x e.outcome (s.modLane l released)
  have hconfig := deliver_sameConfig x e.outcome (s.modLane l released)
  have hlane : ∀ m, (deliver x e.outcome (s.modLane l released)).lane m = (s.modLane l released).lane m :=
    fun m => by rw [hframe]; rfl
  refine ⟨_, execHoldEnd_settled hs hx hp he, fun m => ?_, fun i => ?_, hconfig.entry, hconfig.profile, hconfig.slot,
    ?_⟩
  · rw [hlane]; simp [if_eq_swap l m, released]
  · rw [selectLevel_settled (by rw [hframe]; exact hdues), hlane, lane_modLane, if_pos rfl]
    exact selectLevel_inactive (inFlight_released _) i
  · rw [hframe]; rfl

/-- Settles O29. -/
theorem holdEndCompletesAStop : Obligations.HoldEndCompletesAStop := by
  intro l n x e s hs hx hp he ho hn hf
  have hstop : deliver x e.outcome (s.modLane l released) =
      completeFlight (.entryStop n) .ok (reachOff n (s.modLane l released)) := by
    simp [deliver, ho, deliverEntry, hn]
  have hend : completeFlight (.entryStop n) .ok (reachOff n (s.modLane l released)) = _ := completeFlight_of_eq hf
  refine ⟨_, (execHoldEnd_settled hs hx hp he).trans (congrArg _ (hstop.trans hend)), fun m => ?_, fun p => ?_,
    rfl, rfl, rfl, rfl⟩
  · simp [if_eq_swap n m]
  · rcases eq_or_ne p (s.entry n).cfg.profile with rfl | hpn
    · simp
    · simp [hpn, Ne.symm hpn]

/-! ### The end of a direct transaction (R149, R150) -/

theorem getElem_storeWords (ws : List Long) (i : Nat) (v : Vector Long 8) (j : Nat) (hj : j < 8) :
    (storeWords i ws v)[j] = if i ≤ j then (ws[j - i]?).getD v[j] else v[j] := by
  induction ws generalizing i v with
  | nil => simp [storeWords]
  | cons w ws ih =>
    rw [storeWords, ih, Vector.getElem_setIfInBounds]
    rcases Nat.lt_trichotomy i j with h | h | h
    · have hsub : j - i = (j - (i + 1)) + 1 := by omega
      rw [if_pos (by omega : i + 1 ≤ j), if_pos h.le, hsub, List.getElem?_cons_succ, if_neg h.ne]
    · subst h
      simp
    · rw [if_neg (by omega : ¬i + 1 ≤ j), if_neg (Nat.not_le.2 h), if_neg h.ne']

/-- The words of a slot at its end: those captured, and behind them the words it held (R149). -/
theorem result_finished (o : TxnOutcome) (b : BitOrder) (cs : List (List Bool)) (y : Slot) :
    (finished o (cs.map (wordValue b)) y).doneCount = cs.length ∧
      (∀ i, i < cs.length → ∀ h : i < 8,
        (finished o (cs.map (wordValue b)) y).result[i] = wordValue b ((cs[i]?).getD [])) ∧
      ∀ i, cs.length ≤ i → ∀ h : i < 8, (finished o (cs.map (wordValue b)) y).result[i] = y.result[i] := by
  refine ⟨by simp [finished], fun i hi h => ?_, fun i hi h => ?_⟩
  · simp [finished, getElem_storeWords, hi]
  · simp [finished, getElem_storeWords, List.getElem?_eq_none hi]

/-- The end of the transaction of a RUNNING slot, its cancel in flight or not (R150, R152). -/
theorem deliver_slot {x : Txn} {o : TxnOutcome} {k : SlotNo} (ho : x.owner = .slot k)
    (hk : (s.slot k).state = .running) :
    deliver x o s =
      completeFlight (.directCancel k) (cancelResult o)
        (notifyDirect (s.slot k).req.notify
          (dropUse (s.slot k).req.profile
            (s.setSlot k
              (finished o (x.captured.map (wordValue (s.profile (s.slot k).req.profile).line.bitOrder))
                (s.slot k))))) := by
  simp only [deliver, ho, deliverSlot_running _ _ _ hk]

theorem irq_completeFlight (f : InFlight) (r : CmdResult) (s : State) :
    (completeFlight f r s).irq =
      { s.irq with cmdDone := s.irq.cmdDone || decide (s.cmd.inFlight = some f) } := by
  unfold completeFlight
  by_cases h : s.cmd.inFlight = some f <;> simp [h]

theorem cmd_completeFlight (f : InFlight) (r : CmdResult) (s : State) :
    (completeFlight f r s).cmd = if s.cmd.inFlight = some f then flightEnded s.cmd r else s.cmd := by
  unfold completeFlight
  by_cases h : s.cmd.inFlight = some f <;> simp [h, flightEnded]

theorem entries_completeFlight (f : InFlight) (r : CmdResult) (s : State) :
    (completeFlight f r s).entries = s.entries := by
  unfold completeFlight
  split <;> rfl

theorem cancelResult_outcome (e : Ending) : cancelResult e.outcome = if e = .cut then .ok else .tooLate := by
  cases e <;> rfl

/-- Settles O30. -/
theorem holdEndFinishesASlot : Obligations.HoldEndFinishesASlot := by
  intro l k x e s hs hx hp he ho hk
  obtain ⟨hcount, hwords, hrest⟩ := result_finished e.outcome (s.profile (s.slot k).req.profile).line.bitOrder
    x.captured (s.slot k)
  have hdeliver : deliver x e.outcome (s.modLane l released) = _ := deliver_slot ho hk
  refine ⟨_, (execHoldEnd_settled hs hx hp he).trans (congrArg _ hdeliver), ?_⟩
  simp only [slot_completeFlight, slot_notifyDirect, slot_dropUse_other, slot_setSlot, slot_modLane_other, if_true,
    profile_modLane_other]
  refine ⟨fun h => ?_, fun h => ?_, fun h => ?_, hcount, hwords, hrest, fun j hj => ?_, fun p => ?_, ?_, ?_, ?_, ?_⟩
  · subst h; exact ⟨rfl, rfl⟩
  · subst h; exact ⟨rfl, rfl⟩
  · subst h; exact ⟨rfl, rfl⟩
  · rw [if_neg (Ne.symm hj)]
  · rcases eq_or_ne p (s.slot k).req.profile with rfl | hpk
    · simp
    · simp [hpk, Ne.symm hpk]
  · rw [irq_completeFlight, notifyDirect_eq]; rfl
  · rw [cmd_completeFlight, cancelResult_outcome, cmd_notifyDirect]; rfl
  · rw [entries_completeFlight, notifyDirect_eq]; rfl
  · rw [queue_completeFlight, queue_notifyDirect]; rfl

end Sys2Proof.Machine
end

section
/-! SUPPORT. LANE_RESET: what it leaves of the lane, its queue and the owner of its transaction. -/

namespace Sys2Proof.Machine

variable {s : State} {l : LaneNo}

/-- The lane cleared and its queue left, before an owner is told (R129). -/
def clearedOn (l : LaneNo) (s : State) : State := (s.modLane l clearLane).mapRuns (unqueuedOn l)

theorem entry_clearedOn (l : LaneNo) (s : State) (m : EntryNo) :
    (clearedOn l s).entry m =
      if (s.entry m).cfg.lane = l ∧ (s.entry m).run.state = .queued then
        { s.entry m with run := { (s.entry m).run with state := .wait } }
      else s.entry m := by
  rw [clearedOn, entry_mapRuns, entry_modLane_other]
  by_cases hl : (s.entry m).cfg.lane = l
  · by_cases hq : (s.entry m).run.state = .queued <;> simp [unqueuedOn, unqueue, hl, hq]
  · simp [unqueuedOn, hl]

/-- The entry that owns a transaction does not wait (R9). -/
theorem entry_clearedOn_of_ne {m : EntryNo} (h : (s.entry m).run.state ≠ .queued) :
    (clearedOn l s).entry m = s.entry m := by
  rw [entry_clearedOn, if_neg fun hw => h hw.2]

theorem resetLane_still (h : ∀ x, (s.lane l).txn = some x → (s.lane l).inFlight = false) :
    resetLane l s = clearedOn l s :=
  deliverAborted_still h

theorem resetLane_flying {x : Txn} (hx : (s.lane l).txn = some x) (hi : (s.lane l).inFlight = true)
    (hf : s.cmd.inFlight = none) : resetLane l s = handOver x .aborted (clearedOn l s) :=
  deliverAborted_flying hx hi hf

theorem queue_handOver (x : Txn) (o : TxnOutcome) (s : State) : (handOver x o s).queue = s.queue := by
  rcases handOver_cases x o s with ⟨n, _, _, h⟩ | ⟨n, _, _, h⟩ | ⟨n, _, _, _, h⟩ | ⟨k, w, _, _, h⟩ | ⟨k, _, _, h⟩
  · rw [h, queue_completeFlight]; rfl
  · rw [h]; rfl
  · rw [h]
  · rw [h, queue_completeFlight, queue_notifyDirect]; rfl
  · rw [h, queue_completeFlight]

theorem cmd_handOver {x : Txn} {o : TxnOutcome} (hf : s.cmd.inFlight = none) : (handOver x o s).cmd = s.cmd := by
  rcases handOver_cases x o s with ⟨n, _, _, h⟩ | ⟨n, _, _, h⟩ | ⟨n, _, _, _, h⟩ | ⟨k, w, _, _, h⟩ | ⟨k, _, _, h⟩
  · rw [h, completeFlight_of_ne (by simp [hf])]; rfl
  · rw [h]; rfl
  · rw [h]
  · rw [h, completeFlight_of_ne (by simp [hf])]; simp
  · rw [h, completeFlight_of_ne (by simp [hf])]

theorem queue_resetLane (hf : s.cmd.inFlight = none) : (resetLane l s).queue = s.queue := by
  by_cases h : ∀ x, (s.lane l).txn = some x → (s.lane l).inFlight = false
  · rw [resetLane_still h]; rfl
  · push Not at h
    obtain ⟨x, hx, hi⟩ := h
    rw [resetLane_flying hx (by simpa using hi) hf, queue_handOver]; rfl

theorem cmd_resetLane (hf : s.cmd.inFlight = none) : (resetLane l s).cmd = s.cmd := by
  by_cases h : ∀ x, (s.lane l).txn = some x → (s.lane l).inFlight = false
  · rw [resetLane_still h]; rfl
  · push Not at h
    obtain ⟨x, hx, hi⟩ := h
    rw [resetLane_flying hx (by simpa using hi) hf]
    exact cmd_handOver hf

theorem lane_resetLane (l m : LaneNo) (s : State) :
    (resetLane l s).lane m = if l = m then clearLane (s.lane l) else s.lane m := by
  rw [resetLane_frame]
  exact lane_modLane ..

/-- With no transaction in flight LANE_RESET reaches the lane and its queue alone (R129). -/
theorem resetLane_rest (h : (s.lane l).inFlight = false) :
    (resetLane l s).entries = (clearedOn l s).entries ∧ (resetLane l s).profiles = s.profiles ∧
      (resetLane l s).direct = s.direct ∧ (resetLane l s).irq = s.irq := by
  rw [resetLane_still fun _ _ => h]
  exact ⟨rfl, rfl, rfl, rfl⟩

/-- The ACTIVE entry of an aborted transaction goes to WAIT (R129, R13). -/
theorem resetLane_active {x : Txn} {n : EntryNo} (hx : (s.lane l).txn = some x) (hi : (s.lane l).inFlight = true)
    (hf : s.cmd.inFlight = none) (ho : x.owner = .entry n) (hn : (s.entry n).run.state = .active) :
    resetLane l s = (clearedOn l s).modRun n fun r => { r with state := .wait } := by
  have hn' : ((clearedOn l s).entry n).run.state = .active := by
    rw [entry_clearedOn_of_ne (by simp [hn])]; exact hn
  rw [resetLane_flying hx hi hf]
  simp only [handOver, ho, hn']

/-- The RUNNING slot of an aborted transaction becomes FAILED (R129, R149, R150, R154). -/
theorem resetLane_running {x : Txn} {k : SlotNo} (hx : (s.lane l).txn = some x) (hi : (s.lane l).inFlight = true)
    (hf : s.cmd.inFlight = none) (ho : x.owner = .slot k) (hk : (s.slot k).state = .running) :
    resetLane l s =
      notifyDirect (s.slot k).req.notify
        (dropUse (s.slot k).req.profile
          ((clearedOn l s).setSlot k
            (finished .aborted (x.captured.map (wordValue (s.profile (s.slot k).req.profile).line.bitOrder))
              (s.slot k)))) := by
  rw [resetLane_flying hx hi hf]
  simp only [handOver, ho]
  rw [completeFlight_of_ne (by simpa [clearedOn] using by simp [hf])]
  exact deliverSlot_running _ _ _ hk

/-- What an aborted transaction of an ACTIVE entry leaves (R129). -/
theorem resetLane_active_reads {x : Txn} {n : EntryNo} (hx : (s.lane l).txn = some x)
    (hi : (s.lane l).inFlight = true) (hf : s.cmd.inFlight = none) (ho : x.owner = .entry n)
    (hn : (s.entry n).run.state = .active) :
    (∀ m, (resetLane l s).entry m =
      if m = n ∨ ((s.entry m).cfg.lane = l ∧ (s.entry m).run.state = .queued) then
        { s.entry m with run := { (s.entry m).run with state := .wait } }
      else s.entry m) ∧
    (resetLane l s).profiles = s.profiles ∧ (resetLane l s).direct = s.direct ∧ (resetLane l s).irq = s.irq := by
  rw [resetLane_active hx hi hf ho hn]
  refine ⟨fun m => ?_, rfl, rfl, rfl⟩
  rw [entry_modRun]
  rcases eq_or_ne m n with rfl | hm
  · rw [if_pos rfl, if_pos (.inl rfl), entry_clearedOn_of_ne (by simp [hn])]
  · rw [if_neg (Ne.symm hm), entry_clearedOn]
    simp [hm]

/-- What an aborted transaction of a RUNNING slot leaves (R129, R149, R150, R154). -/
theorem resetLane_running_reads {x : Txn} {k : SlotNo} (hx : (s.lane l).txn = some x)
    (hi : (s.lane l).inFlight = true) (hf : s.cmd.inFlight = none) (ho : x.owner = .slot k)
    (hk : (s.slot k).state = .running) :
    (∀ m, (resetLane l s).entry m = (clearedOn l s).entry m) ∧
    (∀ j, (resetLane l s).slot j =
      if j = k then
        finished .aborted (x.captured.map (wordValue (s.profile (s.slot k).req.profile).line.bitOrder)) (s.slot k)
      else s.slot j) ∧
    (resetLane l s).direct = { s.direct with slots := (resetLane l s).direct.slots } ∧
    (∀ p, (resetLane l s).profile p =
      if p = (s.slot k).req.profile then { s.profile p with useCount := (s.profile p).useCount - 1 }
      else s.profile p) ∧
    (resetLane l s).irq = { s.irq with direct := s.irq.direct || (s.slot k).req.notify } := by
  rw [resetLane_running hx hi hf ho hk]
  refine ⟨fun m => ?_, fun j => ?_, ?_, fun p => ?_, ?_⟩
  · simp
  · rw [slot_notifyDirect, slot_dropUse_other, slot_setSlot, if_eq_swap]
    rfl
  · rw [direct_notifyDirect]
    rfl
  · rw [profile_notifyDirect, profile_dropUse, if_eq_swap]
    rcases eq_or_ne p (s.slot k).req.profile with rfl | hp
    · rfl
    · simp only [if_neg hp]; rfl
  · rw [notifyDirect_eq]
    rfl

/-- Settles O16, by what the lane does and who owns its transaction. -/
theorem laneResetAbortsTheWork : Obligations.LaneResetAbortsTheWork := by
  intro a l s hs ha
  obtain ⟨hsettled, hf⟩ := hs
  have howner : laneResetOwner a { s with port := undriven s.port } =
      .completed (resetLane l { s with port := undriven s.port }) := by
    simp [laneResetOwner, argLane_of_eq ha]
  have hlane : ∀ m, (resetLane l { s with port := undriven s.port }).lane m = _ := fun m => lane_resetLane l m _
  have hframe := resetLane_frame l { s with port := undriven s.port }
  have hflying : (s.lane l).phase ≠ .idle → (s.lane l).phase ≠ .deselect → (s.lane l).inFlight = true :=
    inFlight_of_phase
  refine ⟨_, hostCommand_completed ⟨hsettled, hf⟩ howner, fun m => ?_, fun i => ?_, ?_, ?_, ?_, ?_, ?_, ?_, ?_,
    fun hp => ?_, fun x hx hp hp' => ⟨fun n ho hn => ?_, fun k ho hk => ?_⟩⟩
  · exact (hlane m).trans (by rw [if_eq_swap]; rfl)
  · rw [selectLevel_settled (by rw [hframe]; exact hsettled.2), lane_mk, hlane, if_pos rfl]
    exact selectLevel_inactive rfl i
  · exact queue_resetLane hf
  · rw [hframe]
  · exact congrArg (acceptedOk · 0x22 a) (cmd_resetLane hf)
  · rw [hframe]
  · rw [hframe]
  · rw [hframe]
  · rw [hframe]
  · obtain ⟨he, hrest⟩ := resetLane_rest (s := { s with port := undriven s.port })
      ((inFlight_eq_false_iff (s.lane l)).2 hp)
    exact ⟨fun m => (entry_congr he m).trans (entry_clearedOn l _ m), hrest⟩
  · exact resetLane_active_reads (s := { s with port := undriven s.port }) hx (hflying hp hp') hf ho hn
  · obtain ⟨hentry, hslot, hdirect, hprofile, hirq⟩ :=
      resetLane_running_reads (s := { s with port := undriven s.port }) hx (hflying hp hp') hf ho hk
    obtain ⟨hcount, hwords, hbehind⟩ := result_finished .aborted
      (s.profile (s.slot k).req.profile).line.bitOrder x.captured (s.slot k)
    have hself := (hslot k).trans (if_pos rfl)
    refine ⟨fun m => (hentry m).trans (entry_clearedOn l _ m), fun j => ?_, fun i hlt h => ?_, fun i hle h => ?_,
      hdirect, hprofile, hirq⟩
    · refine (hslot j).trans ?_
      rcases eq_or_ne j k with rfl | hj
      · have hresult := congrArg Slot.result hself
        simp only [if_true, slot_mk, hresult]
        simp [finished, slotEnd]
      · simp only [if_neg hj]; rfl
    · exact (congrArg (fun y : Slot => y.result[i]) hself).trans (hwords i hlt h)
    · exact (congrArg (fun y : Slot => y.result[i]) hself).trans (hbehind i hle h)

end Sys2Proof.Machine
end

section
/-! SUPPORT. What the evaluator and the fault logic do to the entry and to the Change Queue, and the end of HOLD of an
ACTIVE entry. -/

namespace Sys2Proof.Machine

variable {s t : State} {n : EntryNo} {r : Request}

/-! ### A request that finds room (R53, R55) -/

/-- A request with no fold to look for, or none to find, is appended where there is room (R51, R54). -/
theorem post_room (h : r.kind ≠ .change ∨ NothingToFold r.entry s.queue)
    (hl : s.queue.records.length < Config.changeQueueSize) :
    post r s = applyReported r (appendRecord (recordOf r s.queue.nextSeq s.sched.time) s) := by
  rcases h with hk | hfold
  · rcases post_cases r s with ⟨_, _, _, hk', _⟩ | ⟨_, e⟩ | ⟨hfull, _⟩
    · exact absurd hk' hk
    · exact e
    · exact absurd hl (Nat.not_lt.2 hfull)
  · exact post_append hfold hl

theorem queue_post_room (h : r.kind ≠ .change ∨ NothingToFold r.entry s.queue)
    (hl : s.queue.records.length < Config.changeQueueSize) :
    (post r s).queue =
      { s.queue with
        nextSeq := s.queue.nextSeq + 1
        records := s.queue.records ++ [recordOf r s.queue.nextSeq s.sched.time] } := by
  rw [post_room h hl]
  rfl

theorem run_post_change_room (hk : r.kind = .change) (h : NothingToFold r.entry s.queue)
    (hl : s.queue.records.length < Config.changeQueueSize) :
    ((post r s).entry r.entry).run =
      { (s.entry r.entry).run with skipFlag := false, base := r.new, bzone := r.newZone } := by
  rw [post_room (.inr h) hl, entry_applyReported_change hk, if_pos rfl]
  rfl

theorem run_post_event_room (hk : r.kind = .fault ∨ r.kind = .recover)
    (hl : s.queue.records.length < Config.changeQueueSize) :
    ((post r s).entry r.entry).run = { (s.entry r.entry).run with skipFlag := false } := by
  have hne : r.kind ≠ .change := by rcases hk with hk | hk <;> simp [hk]
  rw [post_room (.inl hne) hl]
  rcases hk with hk | hk <;> simp [applyReported, hk]

/-! ### A failure (R134 to R136) -/

/-- The FAIL_RUN after one more failure (R134). -/
def nextFailRun (e : EntryRun) : Nat := min 15 (e.failRun + 1)

theorem failure_faulted (c : FailCause) (h : (s.entry n).run.health = .faulted) :
    failure n c s = s.modRun n (countFailure c) := by
  simp [failure, countFailure, h]

theorem run_failure_below {c : FailCause} (h : (s.entry n).run.health ≠ .faulted)
    (hlimit : nextFailRun (s.entry n).run < (s.profile (s.entry n).cfg.profile).faultLimit.toNat) :
    ((failure n c s).entry n).run =
      { (s.entry n).run with failRun := nextFailRun (s.entry n).run, lastCause := c, health := .suspect } ∧
    (failure n c s).queue = s.queue := by
  have hcount : failure n c s =
      (s.modRun n (countFailure c)).modRun n fun r => { r with health := .suspect } := by
    unfold failure
    unfold nextFailRun at hlimit
    cases hh : (s.entry n).run.health with
    | faulted => exact absurd hh h
    | _ => simp [countFailure, hh, hlimit]
  rw [hcount]
  exact ⟨by simp [countFailure, nextFailRun], rfl⟩

theorem run_failure_limit {c : FailCause} (h : (s.entry n).run.health ≠ .faulted)
    (hlimit : (s.profile (s.entry n).cfg.profile).faultLimit.toNat ≤ nextFailRun (s.entry n).run)
    (hl : s.queue.records.length < Config.changeQueueSize) :
    let e := (s.entry n).run
    let failed : EntryRun := { e with failRun := nextFailRun e, lastCause := c, health := .faulted }
    ((failure n c s).entry n).run = { failed with skipFlag := false } ∧
    (failure n c s).queue =
      { s.queue with
        nextSeq := s.queue.nextSeq + 1
        records := s.queue.records ++ [recordOf (faultRequest n failed) s.queue.nextSeq s.sched.time] } := by
  intro e failed
  have hcount : failure n c s = post (faultRequest n failed) (s.modRun n fun _ => failed) := by
    have hrun : (s.modRun n (countFailure c)).modRun n (fun r => { r with health := .faulted }) =
        s.modRun n fun _ => failed := by
      simp [State.modRun, State.setEntry, State.entry, countFailure, failed, e, nextFailRun]
    unfold failure
    unfold nextFailRun at hlimit
    cases hh : (s.entry n).run.health with
    | faulted => exact absurd hh h
    | _ =>
      dsimp only
      rw [hrun]
      simp [countFailure, hh, Nat.not_lt.2 hlimit]
  rw [hcount]
  have hrun := run_post_event_room (r := faultRequest n failed) (s := s.modRun n fun _ => failed) (.inl rfl) hl
  have hqueue := queue_post_room (r := faultRequest n failed) (s := s.modRun n fun _ => failed)
    (.inl (by simp [faultRequest])) hl
  refine ⟨hrun.trans ?_, hqueue⟩
  simp [faultRequest]

/-! ### The end of HOLD of an ACTIVE entry (R12, R125) -/

/-- The lane released and its ACTIVE entry back in WAIT, before an outcome is evaluated (R12, R125). -/
def freedEntry (l : LaneNo) (n : EntryNo) (s : State) : State :=
  (s.modLane l released).modRun n fun r => { r with state := .wait }

theorem run_freedEntry (l : LaneNo) (n : EntryNo) (s : State) :
    ((freedEntry l n s).entry n).run = { (s.entry n).run with state := .wait } := by
  simp [freedEntry]

theorem cfg_freedEntry (l : LaneNo) (n : EntryNo) (s : State) :
    ((freedEntry l n s).entry n).cfg = (s.entry n).cfg := by
  simp [freedEntry]

theorem profile_freedEntry (l : LaneNo) (n : EntryNo) (s : State) (p : ProfileNo) :
    (freedEntry l n s).profile p = s.profile p := rfl

/-- What an evaluation at the end of HOLD leaves as it was before it. -/
theorem Touches.freed {l : LaneNo} (h : Touches n (freedEntry l n s) t) :
    (∀ m, m ≠ n → t.entry m = s.entry m) ∧
      t.profiles = s.profiles ∧ t.direct = s.direct ∧ t.cmd = s.cmd ∧ t.irq = s.irq := by
  refine ⟨fun m hm => (h.others m hm).trans (by simp [freedEntry, Ne.symm hm]), ?_, ?_, ?_, ?_⟩ <;> rw [h.frame] <;> rfl

theorem deliver_timeout {l : LaneNo} {x : Txn} (ho : x.owner = .entry n) (hn : (s.entry n).run.state = .active) :
    deliver x .fail (s.modLane l released) = failure n .readyTimeout (freedEntry l n s) := by
  simp only [deliver, ho, deliverEntry, entry_modLane_other, hn]
  rfl

theorem deliver_sample {l : LaneNo} {x : Txn} (ho : x.owner = .entry n) (hn : (s.entry n).run.state = .active) :
    deliver x .sample (s.modLane l released) = evaluate n x.captured (freedEntry l n s) := by
  simp only [deliver, ho, deliverEntry, entry_modLane_other, hn]
  rfl

/-- The words of a response, as the device sent them (R27). -/
def responseWords (n : EntryNo) (x : Txn) (s : State) : List Long :=
  x.captured.map (wordValue (s.profile (s.entry n).cfg.profile).line.bitOrder)

theorem evaluate_fails {l : LaneNo} {x : Txn} (h : checkPasses (s.entry n).cfg (responseWords n x s) = false) :
    evaluate n x.captured (freedEntry l n s) = failure n .checkMismatch (freedEntry l n s) := by
  unfold evaluate
  dsimp only
  rw [cfg_freedEntry, profile_freedEntry]
  exact if_neg (by rw [responseWords] at h; simp [h])

theorem evaluate_passes {l : LaneNo} {x : Txn} {v : Long}
    (h : checkPasses (s.entry n).cfg (responseWords n x s) = true)
    (hv : sampleOf (s.entry n).cfg
      (responseString (s.profile (s.entry n).cfg.profile).line.wordLen.toNat (responseWords n x s)) = v) :
    evaluate n x.captured (freedEntry l n s) = goodResponse n v (freedEntry l n s) := by
  subst hv
  unfold evaluate
  dsimp only
  rw [cfg_freedEntry, profile_freedEntry]
  exact if_pos h

/-- Settles O37: a timeout and a failed check are one failure of the entry. -/
theorem failuresCountAndFault : Obligations.FailuresCountAndFault := by
  intro l n x why s hs hx hp ho hn hwhy
  have hdeliver : ∃ e, x.ending = some e ∧
      deliver x e.outcome (s.modLane l released) = failure n why (freedEntry l n s) := by
    rcases hwhy with ⟨he, rfl⟩ | ⟨he, rfl, hcheck⟩
    · exact ⟨_, he, deliver_timeout ho hn⟩
    · exact ⟨_, he, (deliver_sample ho hn).trans (evaluate_fails hcheck)⟩
  obtain ⟨e, he, hd⟩ := hdeliver
  obtain ⟨hothers, hrest⟩ := (failure_touches n why (freedEntry l n s)).freed
  have hrun := run_freedEntry l n s
  have hhealth : ((freedEntry l n s).entry n).run.health = (s.entry n).run.health := by rw [hrun]
  have hnext : nextFailRun ((freedEntry l n s).entry n).run = min 15 ((s.entry n).run.failRun + 1) := by
    rw [hrun]; rfl
  have hlimit : (freedEntry l n s).profile ((freedEntry l n s).entry n).cfg.profile =
      s.profile (s.entry n).cfg.profile := by
    rw [cfg_freedEntry]; rfl
  refine ⟨_, (execHoldEnd_settled hs hx hp he).trans (congrArg _ hd), hothers, fun hf => ?_, fun hf hlt => ?_,
    fun hf hle hl => ?_, hrest⟩
  · rw [failure_faulted why (hhealth.trans hf), entry_modRun, if_pos rfl]
    exact ⟨by rw [hrun]; rfl, rfl⟩
  · obtain ⟨hr, hq⟩ := run_failure_below (c := why) (s := freedEntry l n s) (n := n) (by rwa [hhealth])
      (by rwa [hnext, hlimit])
    exact ⟨by rw [hr, hnext, hrun], hq⟩
  · obtain ⟨hr, hq⟩ := run_failure_limit (c := why) (s := freedEntry l n s) (n := n) (by rwa [hhealth])
      (by rwa [hnext, hlimit]) hl
    refine ⟨by rw [hr, hnext, hrun], ?_⟩
    rw [hq, hrun]
    rfl

/-! ### A good response (R32 to R34, R137) -/

theorem takeSample_eq (c : EntryConfig) (v : Long) (e : EntryRun) :
    takeSample c v e = { e with last := v, czone := if c.mode = .zone then stepZone c e.czone v else .none } := by
  unfold takeSample
  cases c.mode <;> rfl

theorem primeZone_eq (c : EntryConfig) (v : Long) :
    primeZone c v = if c.mode = .zone then plainZone c v else .none := by
  unfold primeZone
  cases c.mode <;> rfl

/-- The entry after a good response that keeps it in service (R32). -/
def madeGood (e : EntryRun) : EntryRun := { e with failRun := 0, health := .good }

theorem goodResponse_primed {v : Long} (h : (s.entry n).run.health ≠ .faulted) (hp : (s.entry n).run.primed = true) :
    goodResponse n v s = judge n v (s.modRun n madeGood) := by
  unfold goodResponse
  cases hh : (s.entry n).run.health with
  | faulted => exact absurd hh h
  | _ =>
    simp only [entry_modRun, if_true, hp]
    rfl

theorem goodResponse_unprimed {v : Long} (h : (s.entry n).run.health ≠ .faulted)
    (hp : (s.entry n).run.primed = false) : goodResponse n v s = prime n v (s.modRun n madeGood) := by
  unfold goodResponse
  cases hh : (s.entry n).run.health with
  | faulted => exact absurd hh h
  | _ =>
    simp only [entry_modRun, if_true, hp, Bool.false_eq_true, if_false]
    rfl

theorem goodResponse_faulted {v : Long} (h : (s.entry n).run.health = .faulted) :
    goodResponse n v s = recover n v s := by
  simp only [goodResponse, h]

/-- The CHANGE request of a judged entry (R39, R42). -/
def changeRequest (n : EntryNo) (e : EntryRun) : Request where
  kind := .change
  entry := n
  old := e.base
  new := e.last
  oldZone := e.bzone
  newZone := e.czone
  cause := .none
  initial := false
  skipped := e.skipFlag

theorem judge_eq (v : Long) :
    judge n v s =
      if changeCondition (s.entry n).cfg (takeSample (s.entry n).cfg v (s.entry n).run) then
        post (changeRequest n (takeSample (s.entry n).cfg v (s.entry n).run))
          (s.modRun n (takeSample (s.entry n).cfg v))
      else s.modRun n (takeSample (s.entry n).cfg v) := by
  unfold judge
  simp only [entry_modRun, if_true]
  rfl

/-- A sample that changes nothing the host was told is kept and not posted (R38). -/
theorem judge_unchanged {v : Long} {e : EntryRun} (he : takeSample (s.entry n).cfg v (s.entry n).run = e)
    (h : ¬ConditionHolds (s.entry n).cfg e) :
    ((judge n v s).entry n).run = e ∧ (judge n v s).queue = s.queue := by
  subst he
  rw [judge_eq, if_neg fun hc => h ((changeCondition_iff _ _).1 hc)]
  exact ⟨by simp, rfl⟩

/-- A sample that changes it is appended where nothing takes a fold and there is room (R39, R40, R53). -/
theorem judge_changed {v : Long} {e : EntryRun} (he : takeSample (s.entry n).cfg v (s.entry n).run = e)
    (h : ConditionHolds (s.entry n).cfg e) (hfold : NothingToFold n s.queue)
    (hl : s.queue.records.length < Config.changeQueueSize) :
    ((judge n v s).entry n).run = { e with base := e.last, bzone := e.czone, skipFlag := false } ∧
    (judge n v s).queue =
      { s.queue with
        nextSeq := s.queue.nextSeq + 1
        records := s.queue.records ++ [recordOf (changeRequest n e) s.queue.nextSeq s.sched.time] } := by
  subst he
  rw [judge_eq, if_pos ((changeCondition_iff _ _).2 h)]
  have hrun := run_post_change_room (r := changeRequest n (takeSample (s.entry n).cfg v (s.entry n).run))
    (s := s.modRun n (takeSample (s.entry n).cfg v)) rfl hfold hl
  exact ⟨hrun.trans (by simp [changeRequest]), queue_post_room (.inr hfold) hl⟩

/-- The runtime part of a primed entry whose good response is judged (R32, R34). -/
def judgedRun (c : EntryConfig) (v : Long) (e : EntryRun) : EntryRun :=
  { e with
    state := .wait, health := .good, failRun := 0, last := v
    czone := if c.mode = .zone then stepZone c e.czone v else .none }

/-- Settles O38. -/
theorem changedSampleIsReported : Obligations.ChangedSampleIsReported := by
  intro l n x v s hs hx hp he ho hn hhealth hprimed
  dsimp only
  intro hcheck hv
  have hpasses : checkPasses (s.entry n).cfg (responseWords n x s) = true := beq_iff_eq.2 hcheck
  have hdeliver : deliver x .sample (s.modLane l released) = judge n v ((freedEntry l n s).modRun n madeGood) := by
    rw [deliver_sample ho hn, evaluate_passes hpasses hv,
      goodResponse_primed (by rwa [run_freedEntry]) (by rwa [run_freedEntry])]
  have hexec := (execHoldEnd_settled hs hx hp he).trans (congrArg Host.Outcome.next hdeliver)
  obtain ⟨hothers, hrest⟩ :=
    ((Touches.modRun n madeGood (freedEntry l n s)).trans (judge_touches n v _)).freed
  have hjudged : takeSample (((freedEntry l n s).modRun n madeGood).entry n).cfg v
      (((freedEntry l n s).modRun n madeGood).entry n).run = judgedRun (s.entry n).cfg v (s.entry n).run := by
    rw [takeSample_eq, entry_modRun, if_pos rfl, run_freedEntry, cfg_freedEntry]
    rfl
  have hcfg : (((freedEntry l n s).modRun n madeGood).entry n).cfg = (s.entry n).cfg := by simp [freedEntry]
  refine ⟨fun h => ?_, fun h hfold hl => ?_⟩
  · obtain ⟨hr, hq⟩ := judge_unchanged hjudged (by rw [hcfg]; exact h)
    exact ⟨_, hexec, hothers, hr, hq, hrest⟩
  · obtain ⟨hr, hq⟩ := judge_changed hjudged (by rw [hcfg]; exact h) hfold hl
    exact ⟨_, hexec, hothers, hr, hq, hrest⟩

/-! ### Priming and recovery (R33, R137) -/

/-- The entry primed with a sample and its zone (R33). -/
def primedRun (v : Long) (z : Zone) (e : EntryRun) : EntryRun :=
  { e with last := v, base := v, czone := z, bzone := z, primed := true }

theorem prime_silent {v : Long} (h : (s.entry n).cfg.initialReport = false) :
    prime n v s = s.modRun n (primedRun v (primeZone (s.entry n).cfg v)) := by
  simp only [prime, h, Bool.false_eq_true, if_false]
  rfl

/-- The INITIAL request (R33). -/
def initialRequest (n : EntryNo) (v : Long) (z : Zone) (skipped : Bool) : Request where
  kind := .change
  entry := n
  old := v
  new := v
  oldZone := z
  newZone := z
  cause := .none
  initial := true
  skipped := skipped

theorem prime_reports {v : Long} (h : (s.entry n).cfg.initialReport = true) :
    prime n v s =
      post (initialRequest n v (primeZone (s.entry n).cfg v) (s.entry n).run.skipFlag)
        (s.modRun n (primedRun v (primeZone (s.entry n).cfg v))) := by
  simp only [prime, h, if_true, entry_modRun]
  rfl

/-- The RECOVER request, with the values before recovery (R137). -/
def recoverRequest (n : EntryNo) (v : Long) (z : Zone) (e : EntryRun) : Request where
  kind := .recover
  entry := n
  old := if e.primed then e.base else 0
  new := v
  oldZone := e.bzone
  newZone := z
  cause := .none
  initial := !e.primed
  skipped := e.skipFlag

theorem recover_eq (v : Long) :
    recover n v s =
      (post (recoverRequest n v (primeZone (s.entry n).cfg v) (s.entry n).run) (s.modRun n madeGood)).modRun n
        (primedRun v (primeZone (s.entry n).cfg v)) := by
  simp only [recover, entry_modRun, if_true]
  rfl

/-- Settles O39. -/
theorem firstSampleAndRecoveryPrimeTheEntry : Obligations.FirstSampleAndRecoveryPrimeTheEntry := by
  intro n v s
  dsimp only
  rw [← primeZone_eq]
  refine ⟨(goodResponse_touches n v s).others, fun hh hp hi => ?_, fun hh hp hi hfold hl => ?_, fun hh hl => ?_⟩
  · rw [goodResponse_unprimed hh hp, prime_silent (by simpa using hi)]
    exact ⟨by simp [primedRun, madeGood], rfl⟩
  · have hcfg : ((s.modRun n madeGood).entry n).cfg = (s.entry n).cfg := by simp
    have hskip : ((s.modRun n madeGood).entry n).run.skipFlag = (s.entry n).run.skipFlag := by simp [madeGood]
    rw [goodResponse_unprimed hh hp, prime_reports (by simpa using hi), hcfg, hskip]
    generalize primeZone (s.entry n).cfg v = z
    have hrun := run_post_change_room (r := initialRequest n v z (s.entry n).run.skipFlag)
      (s := (s.modRun n madeGood).modRun n (primedRun v z)) rfl hfold hl
    have hqueue := queue_post_room (r := initialRequest n v z (s.entry n).run.skipFlag)
      (s := (s.modRun n madeGood).modRun n (primedRun v z)) (.inr hfold) hl
    refine ⟨hrun.trans ?_, hqueue⟩
    simp [initialRequest, primedRun, madeGood]
  · rw [goodResponse_faulted hh, recover_eq]
    have hrun := run_post_event_room
      (r := recoverRequest n v (primeZone (s.entry n).cfg v) (s.entry n).run) (s := s.modRun n madeGood) (.inr rfl) hl
    have hqueue := queue_post_room
      (r := recoverRequest n v (primeZone (s.entry n).cfg v) (s.entry n).run) (s := s.modRun n madeGood)
      (.inl (by simp [recoverRequest])) hl
    refine ⟨?_, hqueue⟩
    rw [entry_modRun, if_pos rfl]
    refine (congrArg (primedRun v (primeZone (s.entry n).cfg v)) hrun).trans ?_
    simp [primedRun, recoverRequest, madeGood]

end Sys2Proof.Machine
end

section
/-! SUPPORT. The reset pin, and the tick as far as the dues it finds. -/

namespace Sys2Proof.Machine

variable {s : State}

/-! ### The reset pin -/

theorem selectLevel_powerOn (i : SelectNo) : Lane.powerOn.selectLevel i = true := by
  revert i; decide

/-- Settles O5. -/
theorem powerOnResetFromAnyState : Obligations.PowerOnResetFromAnyState := by
  intro s
  have hlane : ∀ l, ({ State.powerOn with pending := s.pending, freeCount := s.freeCount } : State).lane l =
      Lane.powerOn := fun l => by simp [State.lane, State.powerOn]
  have hdues : ({ State.powerOn with pending := s.pending, freeCount := s.freeCount } : State).sched.dues = [] := rfl
  refine ⟨_, rfl, rfl, rfl, fun n => ?_, fun p => ?_, fun k => ?_, fun l => hlane l, rfl, rfl, rfl, rfl, rfl, rfl, rfl,
    rfl, fun l i => ⟨?_, ?_, ?_⟩, fun a => rfl⟩
  · simp [State.entry, State.powerOn]
  · simp [State.profile, State.powerOn]
  · simp [State.slot, State.powerOn]
  · rw [selectLevel_settled hdues, hlane]
    exact selectLevel_powerOn i
  · rw [State.sck, settleDues_nil hdues, hlane]
    rfl
  · rw [State.sdo, settleDues_nil hdues]
    simp only [hlane]
    rfl

/-- Settles O6. -/
theorem resetReleaseBeginsTheTickInterval : Obligations.ResetReleaseBeginsTheTickInterval := by
  intro s
  refine ⟨fun h => ?_, fun h => ?_⟩
  · exact if_pos h
  · exact if_neg (by simp [h])

theorem hostAccess_inReset {f : State → Outcome} (h : s.inReset = true) : hostAccess f s = .next s := by
  simp [hostAccess, h]

theorem execUnknownCommand_inReset {w : Word} (hw : w.extractLsb' 8 8 ∉ definedCodes) (h : s.inReset = true) :
    execUnknownCommand w s = .next s := by
  unfold execUnknownCommand
  rw [hasDefinedCode_undefined hw, if_neg Bool.false_ne_true]
  exact hostAccess_inReset h

theorem execRegisterWrite_inReset {a : Addr} {v : Word} (ha : a ∈ readOnlyAddrs ++ unassignedAddrs)
    (h : s.inReset = true) : execRegisterWrite a v s = .next s := by
  unfold execRegisterWrite
  rw [if_pos ((decodeWrite_registerWrite a v).2 ha)]
  exact hostAccess_inReset h

/-- Settles O7: the two rows that test their word first are well-formed here, the others are host accesses at once. -/
theorem noHostAccessWhileResetIsLow : Obligations.NoHostAccessWhileResetIsLow := by
  intro c b s henc hwf h
  cases c with
  | unknownCommand w => exact execUnknownCommand_inReset (by simpa [Instr.wellFormed] using hwf) h
  | registerWrite a v => exact execRegisterWrite_inReset (by simpa [Instr.wellFormed] using hwf) h
  | powerOnReset => cases henc
  | resetRelease => cases henc
  | tick => cases henc
  | due n => cases henc
  | setupEnd l r => cases henc
  | readyObserved l k => cases henc
  | readyTimeout l => cases henc
  | wordEnd l b r => cases henc
  | gapEnd l r => cases henc
  | holdEnd l => cases henc
  | deselectEnd l => cases henc
  | _ =>
    simp only [exec, execStartScan, execStopScan, execEntryEnable, execEntryStop, execEntryRearm, execLaneHold,
      execLaneRelease, execLaneReset, execDirectSubmit, execDirectCancel, execDirectRelease,
      execQueueFlush, execSoftReset, execHeadInfoRead, execPop, execTimeHiRead, execTickDivWrite,
      execQueueLevelWrite, execAgeLimitWrite, execIrqCauseWrite, execIrqEnableWrite, execTableSelectWrite,
      execTableOffsetWrite, execTableDataRead, execTableDataWrite, hostCommand, hostWrite, hostRead,
      hostAccess, h, if_true]

/-! ### The tick -/

theorem execTick_settled (hs : s.Settled) : execTick s = .next (beginTick s) := by
  simp [execTick, hs.1, settleDues_nil hs.2]

theorem counted_iff (e : EntryRun) : counted e = true ↔ e.state ≠ .off ∧ e.state ≠ .stopping := by
  unfold counted
  cases e.state <;> simp

theorem entry_countEntries (s : State) (n : EntryNo) :
    (countEntries s).entry n =
      if (s.entry n).run.state = .off ∨ (s.entry n).run.state = .stopping then s.entry n
      else { s.entry n with run := { (s.entry n).run with countdown := (s.entry n).run.countdown - 1 } } := by
  rw [countEntries, entry_mapRuns]
  by_cases h : counted (s.entry n).run = true
  · have hc := (counted_iff _).1 h
    simp [h, hc]
  · have hc : (s.entry n).run.state = .off ∨ (s.entry n).run.state = .stopping := by
      by_contra hne
      rw [not_or] at hne
      exact h ((counted_iff _).2 hne)
    simp [h, hc]

theorem mem_findDues (s : State) (n : EntryNo) :
    n ∈ findDues s ↔
      (s.entry n).run.state ≠ .off ∧ (s.entry n).run.state ≠ .stopping ∧ (s.entry n).run.countdown = 0 := by
  simp [findDues, counted_iff, and_assoc]

/-- The dues stand in ascending order (R86). -/
theorem pairwise_findDues (s : State) : (findDues s).Pairwise (· < ·) :=
  (List.pairwise_lt_finRange 64).filter _

theorem beginTick_stopped (h : s.sched.running = false) : beginTick s = advanceTime s := by
  simp [beginTick, advanceTime, h]

theorem beginTick_running (h : s.sched.running = true) :
    beginTick s =
      { countEntries (advanceTime s) with
        sched := { (advanceTime s).sched with dues := findDues (countEntries (advanceTime s)) } } := by
  simp [beginTick, advanceTime, h]

/-- Settles O8. -/
theorem tickAdvancesTimeAndCountdowns : Obligations.TickAdvancesTimeAndCountdowns := by
  intro s hs
  refine ⟨fun h => ?_, fun h => ?_⟩
  · exact (execTick_settled hs).trans (congrArg _ (beginTick_stopped h))
  · have hcount := entry_countEntries (advanceTime s)
    refine ⟨_, (execTick_settled hs).trans (congrArg _ (beginTick_running h)), hcount, rfl, fun n => ?_,
      pairwise_findDues _, rfl⟩
    refine (mem_findDues _ n).trans ?_
    rw [hcount n]
    rcases eq_or_ne (s.entry n).run.state .off with hoff | hoff
    · simp [advanceTime, hoff]
    · rcases eq_or_ne (s.entry n).run.state .stopping with hstop | hstop
      · simp [advanceTime, hstop]
      · simp [advanceTime, hoff, hstop, Nat.sub_eq_zero_iff_le]

end Sys2Proof.Machine
end

section
/-! SUPPORT. A due and the arbiters after the last due of a tick: the arbiter of one lane does not disturb another. -/

namespace Sys2Proof.Machine

variable {s u : State} {l m : LaneNo}

/-! ### One due (R86 to R90) -/

theorem reload_eq (e : Entry) :
    reload e = if e.run.health = .faulted then 8 * e.cfg.period.toNat else e.cfg.period.toNat := by
  unfold reload
  cases e.run.health <;> rfl

/-- A due that is offered to its lane queue (R87, R88). -/
theorem handleDue_offered {n : EntryNo} (hw : (s.entry n).run.state = .wait)
    (hq : (s.lane (s.entry n).cfg.lane).queue.length < Config.laneQueueSize) :
    handleDue n s =
      (s.modRun n fun r => { r with countdown := reload (s.entry n), state := .queued }).modLane (s.entry n).cfg.lane
        fun L => { L with queue := L.queue ++ [n] } := by
  simp [handleDue, hw, hq]

/-- An overrun due, and one that finds its lane queue full (R89, R90). -/
theorem handleDue_skipped {n : EntryNo}
    (h : (s.entry n).run.state = .queued ∨ (s.entry n).run.state = .active ∨
      ((s.entry n).run.state = .wait ∧ Config.laneQueueSize ≤ (s.lane (s.entry n).cfg.lane).queue.length)) :
    handleDue n s = s.modRun n fun r => skipDue { r with countdown := reload (s.entry n) } := by
  rcases h with h | h | ⟨h, hq⟩
  · simp [handleDue, h]
  · simp [handleDue, h]
  · simp [handleDue, h, Nat.not_lt.2 hq]

theorem execDue_rest {n : EntryNo} {ds : List EntryNo} (hr : s.inReset = false) (hd : s.sched.dues = n :: ds) :
    (ds ≠ [] → execDue n s = .next (handleDue n { s with sched := { s.sched with dues := ds } })) ∧
      (ds = [] → execDue n s = .next (wakeArbiters (handleDue n { s with sched := { s.sched with dues := ds } }))) := by
  refine ⟨fun h => ?_, fun h => ?_⟩
  · rw [execDue_first hr hd, afterDue, if_neg h]
  · rw [execDue_first hr hd, afterDue, if_pos h]

/-! ### One arbiter (R117) -/

/-- No waiting slot names the lane (R117). -/
def NoSlotFor (l : LaneNo) (s : State) : Prop := ∀ k ∈ s.direct.waiting, (s.slot k).req.lane ≠ l

theorem req_arbitrate (m : LaneNo) (s : State) (k : SlotNo) : ((arbitrate m s).slot k).req = (s.slot k).req := by
  rcases arbitrate_cases m s with h | ⟨_, _, ⟨j, _, _, h⟩ | ⟨n, q, _, h⟩⟩
  · rw [h]
  · rw [h, slot_takeSlot]
    split
    · next hj => subst hj; rfl
    · rfl
  · rw [h]; rfl

theorem waiting_arbitrate_subset (m : LaneNo) (s : State) : (arbitrate m s).direct.waiting ⊆ s.direct.waiting := by
  rcases arbitrate_cases m s with h | ⟨_, _, ⟨j, _, _, h⟩ | ⟨n, q, _, h⟩⟩
  · rw [h]; exact List.Subset.refl _
  · rw [h, waiting_takeSlot]; exact List.erase_subset
  · rw [h]; exact List.Subset.refl _

theorem NoSlotFor.arbitrate (h : NoSlotFor l s) (m : LaneNo) : NoSlotFor l (arbitrate m s) := fun k hk => by
  rw [req_arbitrate]
  exact h k (waiting_arbitrate_subset m s hk)

/-- An arbiter changes of an entry at most its STATE, to ACTIVE (R11). -/
theorem run_arbitrate (m : LaneNo) (s : State) (n : EntryNo) :
    ((arbitrate m s).entry n).run = (s.entry n).run ∨
      ((arbitrate m s).entry n).run = { (s.entry n).run with state := .active } := by
  rcases arbitrate_cases m s with h | ⟨_, _, ⟨j, _, _, h⟩ | ⟨i, q, _, h⟩⟩
  · left; rw [h]
  · left; rw [h]; rfl
  · rw [h, entry_takeEntry]
    split
    · next hin => subst hin; right; rfl
    · left; rfl

/-! ### A row of arbiters -/

/-- The arbiters of the lanes listed decide one after the other. -/
def arbitrateAll (ls : List LaneNo) (s : State) : State := ls.foldl (fun s l => arbitrate l s) s

theorem arbitrateAll_cons (m : LaneNo) (ls : List LaneNo) (s : State) :
    arbitrateAll (m :: ls) s = arbitrateAll ls (arbitrate m s) := rfl

theorem lane_arbitrateAll {ls : List LaneNo} (h : l ∉ ls) : (arbitrateAll ls s).lane l = s.lane l := by
  induction ls generalizing s with
  | nil => rfl
  | cons m ls ih =>
    rw [List.mem_cons, not_or] at h
    rw [arbitrateAll_cons, ih h.2, arbitrate_lane_of_ne h.1]

theorem NoSlotFor.arbitrateAll (h : NoSlotFor l s) (ls : List LaneNo) : NoSlotFor l (arbitrateAll ls s) := by
  induction ls generalizing s with
  | nil => exact h
  | cons m ls ih => exact ih (h.arbitrate m)

/-- The runtime part of an entry but for STATE. -/
theorem run_arbitrateAll (ls : List LaneNo) (s : State) (n : EntryNo) :
    ((arbitrateAll ls s).entry n).run = (s.entry n).run ∨
      ((arbitrateAll ls s).entry n).run = { (s.entry n).run with state := .active } := by
  induction ls generalizing s with
  | nil => exact .inl rfl
  | cons m ls ih =>
    rw [arbitrateAll_cons]
    rcases run_arbitrate m s n with h | h
    · rw [← h]; exact ih _
    · right
      rcases ih (arbitrate m s) with h' | h' <;> rw [h', h]

/-- The arbiter of one lane among the four (R86, R117). -/
theorem wakeArbiters_split (l : LaneNo) (s : State) :
    ∃ before after, l ∉ before ∧ l ∉ after ∧
      wakeArbiters s = arbitrateAll after (arbitrate l (arbitrateAll before s)) := by
  obtain ⟨before, after, hall⟩ := List.append_of_mem (List.mem_finRange l)
  have hnodup := List.nodup_finRange 4
  rw [hall] at hnodup
  obtain ⟨_, hafter, hdisjoint⟩ := List.nodup_append.1 hnodup
  refine ⟨before, after, fun hl => hdisjoint l hl l (by simp) rfl, (List.nodup_cons.1 hafter).1, ?_⟩
  rw [wakeArbiters, hall, List.foldl_append]
  rfl

/-- A lane whose arbiter has nothing to decide stays as it is (R117). -/
theorem lane_wakeArbiters_idle
    (h : (s.lane l).mode ≠ .running ∨ (s.lane l).phase ≠ .idle ∨ ((s.lane l).queue = [] ∧ NoSlotFor l s)) :
    (wakeArbiters s).lane l = s.lane l := by
  obtain ⟨before, after, hbefore, hafter, hall⟩ := wakeArbiters_split l s
  have hlane : (arbitrateAll before s).lane l = s.lane l := lane_arbitrateAll hbefore
  have hstay : arbitrate l (arbitrateAll before s) = arbitrateAll before s := by
    rcases h with hm | hp | ⟨hq, hw⟩
    · exact arbitrate_of_not_ready _ fun hr => hm (hlane ▸ hr.1)
    · exact arbitrate_of_not_ready _ fun hr => hp (hlane ▸ hr.2)
    · exact arbitrate_of_none_waiting _ (by rw [hlane, hq]) (hw.arbitrateAll before)
  rw [hall, lane_arbitrateAll hafter, hstay, hlane]

/-- The head of the queue of a lane that is ready for it is taken (R117, R11). -/
theorem wakeArbiters_takes_head {n : EntryNo} {q : List EntryNo} (hm : (s.lane l).mode = .running)
    (hp : (s.lane l).phase = .idle) (hq : (s.lane l).queue = n :: q)
    (hs : (s.lane l).streak = 4 ∨ NoSlotFor l s) :
    ((wakeArbiters s).entry n).run = { (s.entry n).run with state := .active } ∧
      ∃ v, (wakeArbiters s).lane l = (takeEntry l n q v).lane l := by
  obtain ⟨before, after, hbefore, hafter, hall⟩ := wakeArbiters_split l s
  have hlane : (arbitrateAll before s).lane l = s.lane l := lane_arbitrateAll hbefore
  have htake : arbitrate l (arbitrateAll before s) = takeEntry l n q (arbitrateAll before s) := by
    refine arbitrate_takes_entry _ (by rw [hlane, hm]) (by rw [hlane, hp]) (by rw [hlane, hq]) ?_
    rw [hlane]
    exact hs.imp_right fun hw => hw.arbitrateAll before
  rw [hall, htake]
  refine ⟨?_, _, lane_arbitrateAll hafter⟩
  have hactive : ((takeEntry l n q (arbitrateAll before s)).entry n).run =
      { (s.entry n).run with state := .active } := by
    rw [entry_takeEntry, if_pos rfl]
    rcases run_arbitrateAll before s n with h | h <;> rw [h]
  rcases run_arbitrateAll after (takeEntry l n q (arbitrateAll before s)) n with h | h <;> rw [h, hactive]

/-- Settles O9. -/
theorem dueIsOfferedOrSkipped : Obligations.DueIsOfferedOrSkipped := by
  intro n ds s hr hd
  obtain ⟨hmore, hlast⟩ := execDue_rest hr hd
  dsimp only
  rw [← reload_eq]
  refine ⟨fun hw hq => ⟨_, hmore, hlast, ?_⟩, fun h => ⟨_, hmore, hlast, ?_⟩, fun u l => ⟨fun h => ?_, ?_⟩⟩
  · rw [handleDue_offered (by exact hw) (by exact hq)]
    refine ⟨fun m => ?_, fun l => ?_, rfl⟩
    · rw [entry_modLane_other, entry_modRun, if_eq_swap]
      rfl
    · rw [lane_modLane]
      rcases eq_or_ne l (s.entry n).cfg.lane with rfl | hl
      · simp
      · simp [hl, Ne.symm hl]
  · rw [handleDue_skipped (by exact h)]
    refine ⟨fun m => ?_, rfl⟩
    rw [entry_modRun, if_eq_swap]
    rfl
  · exact lane_wakeArbiters_idle h
  · intro m q hm hp hq hs
    obtain ⟨hrun, v, hlane⟩ := wakeArbiters_takes_head hm hp hq hs
    rw [hlane, lane_takeEntry_same]
    exact ⟨hrun, rfl, rfl, rfl, rfl⟩

end Sys2Proof.Machine
end

section
/-! SUPPORT. POP and the drain that follows it; the hysteresis of zones. -/

namespace Sys2Proof.Machine

variable {s : State}

/-! ### The drain over entries whose reports lapse (R65, R69) -/

/-- An entry that owes no report any more (R66). -/
def clearedReport (e : Entry) : Entry :=
  { e with
    run :=
      { e.run with pending := .none, overwritten := if e.run.pending = .none then e.run.overwritten else false } }

theorem clearedReport_of_none {e : Entry} (h : e.run.pending = .none) : clearedReport e = e := by
  obtain ⟨cfg, run⟩ := e
  cases run
  simp_all [clearedReport]

theorem not_owed_clearedReport (e : Entry) : ¬ReportOwed (clearedReport e) := id

theorem entry_lapse_eq (n m : EntryNo) (s : State) :
    (lapse s n).entry m = if m = n then clearedReport (s.entry m) else s.entry m := by
  rw [entry_lapse]
  rcases eq_or_ne m n with rfl | hm
  · by_cases hp : (s.entry m).run.pending = .none
    · simp [clearedReport_of_none hp, hp]
    · simp [clearedReport, hp]
  · simp [hm, Ne.symm hm]

theorem not_owed_lapse {m : EntryNo} (h : ¬ReportOwed (s.entry m)) (n : EntryNo) :
    ¬ReportOwed ((lapse s n).entry m) := by
  rw [entry_lapse_eq]
  split
  · exact not_owed_clearedReport _
  · exact h

theorem lapse_frame (n : EntryNo) (s : State) : lapse s n = { s with entries := (lapse s n).entries } := by
  unfold lapse
  split <;> rfl

theorem frame_trans {u t : State} (hu : u = { s with entries := u.entries })
    (ht : t = { u with entries := t.entries }) :
    t = { s with entries := t.entries } := ht.trans (by rw [hu])

/-- The reports of the entries listed are cleared, one after the other. -/
def lapseAll (ns : List EntryNo) (s : State) : State := ns.foldl lapse s

theorem entry_lapseAll (ns : List EntryNo) (s : State) (m : EntryNo) :
    (lapseAll ns s).entry m = if m ∈ ns then clearedReport (s.entry m) else s.entry m := by
  induction ns generalizing s with
  | nil => simp [lapseAll]
  | cons n ns ih =>
    rw [lapseAll, List.foldl_cons]
    refine (ih (lapse s n)).trans ?_
    rw [entry_lapse_eq]
    rcases eq_or_ne m n with rfl | hm
    · simp [clearedReport_of_none (e := clearedReport (s.entry m)) rfl]
    · simp [hm]

theorem lapseAll_frame (ns : List EntryNo) (s : State) :
    lapseAll ns s = { s with entries := (lapseAll ns s).entries } := by
  induction ns generalizing s with
  | nil => rfl
  | cons n ns ih =>
    exact frame_trans (lapse_frame n s) (ih (lapse s n))

/-- A drain clears the reports it passes that are owed no more (R65, R69). -/
theorem drainFrom_lapseAll {ns rest : List EntryNo} (h : ∀ n ∈ ns, ¬ReportOwed (s.entry n)) :
    drainFrom (ns ++ rest) s = drainFrom rest (lapseAll ns s) := by
  induction ns generalizing s with
  | nil => rfl
  | cons n ns ih =>
    rw [List.cons_append, drainFrom_lapse (h n (by simp)),
      ih fun m hm => not_owed_lapse (h m (List.mem_cons_of_mem n hm)) n]
    rfl

theorem drain_of_not_owed (h : ∀ n, ¬ReportOwed (s.entry n)) : drain s = lapseAll (List.finRange 64) s := by
  have hall := drainFrom_lapseAll (ns := List.finRange 64) (rest := []) (s := s) fun n _ => h n
  rwa [List.append_nil] at hall

theorem drain_of_none (h : ∀ n, (s.entry n).run.pending = .none) : drain s = s := by
  have hnot : ∀ n, ¬ReportOwed (s.entry n) := fun n ho => ((reportOwed_iff _).1 ho).1 (h n)
  rw [drain_of_not_owed hnot, lapseAll_frame]
  have hentries : (lapseAll (List.finRange 64) s).entries = s.entries := entries_ext fun m => by
    rw [entry_lapseAll, clearedReport_of_none (h m), ite_self]
  rw [hentries]

/-- The entries before one, in ascending order. -/
theorem finRange_split (n : EntryNo) :
    ∃ lower upper, List.finRange 64 = lower ++ n :: upper ∧ ∀ m, m ∈ lower ↔ m < n := by
  obtain ⟨lower, upper, hall⟩ := List.append_of_mem (List.mem_finRange n)
  refine ⟨lower, upper, hall, fun m => ?_⟩
  have hsorted := List.pairwise_lt_finRange 64
  rw [hall, List.pairwise_append] at hsorted
  obtain ⟨_, hupper, hacross⟩ := hsorted
  refine ⟨fun hm => hacross m hm n (by simp), fun hlt => ?_⟩
  have hmem : m ∈ lower ++ n :: upper := hall ▸ List.mem_finRange m
  rcases List.mem_append.1 hmem with hm | hm
  · exact hm
  · rcases List.mem_cons.1 hm with rfl | hm
    · exact absurd hlt (lt_irrefl m)
    · exact absurd ((List.pairwise_cons.1 hupper).1 m hm) (lt_asymm hlt)

/-- The lowest report still owed is posted (R65 to R68). -/
theorem drain_of_lowest {n : EntryNo} (h : ReportOwed (s.entry n)) (hlow : ∀ m, m < n → ¬ReportOwed (s.entry m)) :
    ∃ lower, (∀ m, m ∈ lower ↔ m < n) ∧ drain s = postOwed n (lapseAll lower s) := by
  obtain ⟨lower, upper, hall, hmem⟩ := finRange_split n
  refine ⟨lower, hmem, ?_⟩
  rw [drain, hall, drainFrom_lapseAll fun m hm => hlow m ((hmem m).1 hm), drainFrom_post]
  rw [entry_lapseAll, if_neg fun hm => lt_irrefl n ((hmem n).1 hm)]
  exact h

/-! ### What the drain posts (R66 to R68) -/

theorem afterDrain_eq (e : EntryRun) :
    afterDrain e =
      { e with
        pending := .none, overwritten := false, skipFlag := false
        base := if decide (e.pending = .fault) then e.base else e.last
        bzone := if decide (e.pending = .fault) then e.bzone else e.czone } := by
  unfold afterDrain
  cases e.pending <;> rfl

theorem drainedRecord_eq (n : EntryNo) (e : EntryRun) (seq : Word) (time : Long) :
    drainedRecord n e seq time =
      { kind := if decide (e.pending = .fault) then .fault else if e.pending = .recover then .recover else .change
        entry := n, seq := seq, initial := decide (e.pending = .initial)
        skipped := e.skipFlag, deferred := true, overwritten := e.overwritten, count := 1
        old := if decide (e.pending = .fault) then (if e.primed then e.last else 0) else e.base
        new := if decide (e.pending = .fault) then 0 else e.last
        oldZone := if decide (e.pending = .fault) then e.czone else e.bzone
        newZone := if decide (e.pending = .fault) then .none else e.czone
        cause := if decide (e.pending = .fault) then e.lastCause else .none
        first := time, latest := time } := by
  unfold drainedRecord
  cases e.pending <;> rfl

theorem entry_postOwed (n m : EntryNo) (s : State) :
    (postOwed n s).entry m =
      if m = n then { s.entry n with run := afterDrain (s.entry n).run } else s.entry m := by
  rw [postOwed, entry_modRun, if_eq_swap]
  rfl

theorem queue_postOwed (n : EntryNo) (s : State) :
    (postOwed n s).queue =
      { s.queue with
        nextSeq := s.queue.nextSeq + 1
        records := s.queue.records ++ [drainedRecord n (s.entry n).run s.queue.nextSeq s.sched.time] } := rfl

theorem postOwed_frame {u : State} (n : EntryNo) (hu : u = { s with entries := u.entries }) :
    postOwed n u = { s with entries := (postOwed n u).entries, queue := (postOwed n u).queue } := by
  have hframe : postOwed n u = { u with entries := (postOwed n u).entries, queue := (postOwed n u).queue } := rfl
  refine hframe.trans ?_
  generalize postOwed n u = t
  rw [hu]

/-- The state after the held head has left, before the drain (R59). -/
def popped (q : List Record) (s : State) : State :=
  { s with queue := { s.queue with records := q, held := false }, port := undriven s.port }

theorem execPop_held {x : Record} {q : List Record} (v : Word) (hs : s.Settled) (hh : s.queue.held = true)
    (hq : s.queue.records = x :: q) : execPop v s = .next (drain (popped q s)) := by
  have hremove : removeHead { s with port := undriven s.port } = popped q s := by simp [removeHead, popped, hq]
  rw [execPop, hostWrite_settled hs, ← hremove]
  exact if_pos hh

/-- Settles O43, by what the entries still owe. -/
theorem popRemovesTheHeldHeadAndDrains : Obligations.PopRemovesTheHeldHeadAndDrains := by
  intro v x q s hs hh hq
  have hexec : exec (.pop v) s = .next (drain (popped q s)) := execPop_held v hs hh hq
  refine ⟨fun hnone => ?_, fun hnot => ?_, fun n howed hlow => ?_⟩
  · rw [hexec, drain_of_none (s := popped q s) hnone]
    rfl
  · have hdrain := drain_of_not_owed (s := popped q s) hnot
    exact ⟨_, hexec.trans (congrArg _ hdrain),
      fun m => (entry_lapseAll _ (popped q s) m).trans (if_pos (List.mem_finRange m)),
      lapseAll_frame _ (popped q s)⟩
  · obtain ⟨lower, hmem, hdrain⟩ := drain_of_lowest (s := popped q s) howed hlow
    have hself : (lapseAll lower (popped q s)).entry n = s.entry n :=
      (entry_lapseAll ..).trans (if_neg fun hm => lt_irrefl n ((hmem n).1 hm))
    have hframe := lapseAll_frame lower (popped q s)
    refine ⟨_, hexec.trans (congrArg _ hdrain), fun m => ?_, ?_, ?_⟩
    · rw [entry_postOwed, hself, afterDrain_eq, entry_lapseAll]
      simp only [hmem]
      rcases lt_trichotomy m n with hm | rfl | hm
      · simp only [hm, hm.ne, if_true, if_false]; rfl
      · simp only [lt_irrefl, if_true, if_false]
      · simp only [hm.ne', not_lt_of_gt hm, if_false]; rfl
    · rw [queue_postOwed, hself, drainedRecord_eq, hframe]
      rfl
    · exact postOwed_frame (s := popped q s) n hframe

/-! ### Zones (R36, R37) -/

/-- Settles O36: with HYST 0 and the thresholds in order, the three plain cases exclude one another. -/
theorem hysteresisOfZones : Obligations.HysteresisOfZones := by
  intro c x
  refine ⟨rfl, rfl, rfl, fun hh hab z => ?_⟩
  have hh' : (c.hyst.toNat : Int) = 0 := hh
  by_cases hlow : numberOf c.signed x < numberOf c.signed c.threshA
  · have hb : ¬numberOf c.signed c.threshB < numberOf c.signed x := by omega
    cases z <;> simp [stepZone, plainZone, hh', hlow, hb, not_le_of_gt hlow]
  · by_cases hhigh : numberOf c.signed c.threshB < numberOf c.signed x
    · cases z <;> simp [stepZone, plainZone, hh', hlow, hhigh, not_le_of_gt hhigh]
    · cases z <;> simp [stepZone, plainZone, hh', hlow, hhigh, not_lt.1 hlow, not_lt.1 hhigh]

end Sys2Proof.Machine
end

section
/-! SUPPORT. The registers the host writes: their values, the writes that are ignored, the selection of a record. -/

namespace Sys2Proof.Machine

variable {s : State}

/-- A latched cause stays active unless the host clears it. -/
theorem and_not_eq_ite (cause clear : Bool) : (cause && !clear) = if clear then false else cause := by
  cases clear <;> simp

theorem min_eq_ite (m n : Nat) : min m n = if m ≤ n then m else n := Nat.min_def

theorem execQueueLevelWrite_settled (v : Word) (hs : s.Settled) :
    execQueueLevelWrite v s =
      .next
        { s with
          queue := { s.queue with level := if v.toNat ≤ 32 then v.toNat else 32 }, port := undriven s.port } := by
  rw [execQueueLevelWrite, hostWrite_settled hs, min_eq_ite]

theorem execIrqCauseWrite_settled (v : Word) (hs : s.Settled) :
    execIrqCauseWrite v s =
      .next
        { s with
          irq :=
            { s.irq with
              cmdDone := if v.getLsbD 1 then false else s.irq.cmdDone
              direct := if v.getLsbD 2 then false else s.irq.direct
              accessErr := if v.getLsbD 3 then false else s.irq.accessErr }
          port := undriven s.port } := by
  rw [execIrqCauseWrite, hostWrite_settled hs]
  simp only [and_not_eq_ite, bitOf]

theorem execTickDivWrite_settled (v : Word) (hs : s.Settled) :
    execTickDivWrite v s =
      if v = 0 then .next { s with irq := withError s.irq .badTick 0x12, port := undriven s.port }
      else .next { s with sched := { s.sched with tickDiv := v }, port := undriven s.port } := by
  rw [execTickDivWrite, hostWrite_settled hs]
  rfl

theorem execAgeLimitWrite_settled (v : Word) (hs : s.Settled) :
    execAgeLimitWrite v s =
      .next { s with queue := { s.queue with ageLimit := v }, port := undriven s.port } := by
  rw [execAgeLimitWrite, hostWrite_settled hs]

theorem execIrqEnableWrite_settled (v : Word) (hs : s.Settled) :
    execIrqEnableWrite v s =
      .next { s with irq := { s.irq with enable := v.extractLsb' 0 4 }, port := undriven s.port } := by
  rw [execIrqEnableWrite, hostWrite_settled hs]
  rfl

theorem execTimeHiRead_settled (hs : s.Settled) :
    execTimeHiRead s =
      .next
        { s with
          port :=
            { s.port with
              timeLatch := s.sched.time.extractLsb' 0 16, data := some (s.sched.time.extractLsb' 16 16) } } := by
  rw [execTimeHiRead, hostRead_settled hs]
  rfl

/-- Settles O45. -/
theorem registerAccesses : Obligations.RegisterAccesses := by
  intro v s hs
  refine ⟨execQueueLevelWrite_settled v hs, execAgeLimitWrite_settled v hs, fun hv => ?_, fun hv => ?_,
    execIrqCauseWrite_settled v hs, execIrqEnableWrite_settled v hs, execTimeHiRead_settled hs⟩
  · exact (execTickDivWrite_settled v hs).trans (if_neg hv)
  · exact (execTickDivWrite_settled v hs).trans (if_pos hv)

/-! ### Writes to read-only and unassigned registers (R167) -/

theorem regAt_of_readOnly {a : Addr} (h : a ∈ readOnlyAddrs) : regAt a ≠ .unassigned := by
  revert a; decide

theorem regAt_of_unassigned {a : Addr} (h : a ∈ unassignedAddrs) : regAt a = .unassigned := by
  revert a; decide

theorem execRegisterWrite_settled {a : Addr} (v : Word) (hs : s.Settled) (h : a ∈ readOnlyAddrs ++ unassignedAddrs) :
    execRegisterWrite a v s =
      if regAt a = .unassigned then .next { s with port := undriven s.port }
      else .next { s with irq := withError s.irq .readOnly (byteOffset a), port := undriven s.port } := by
  rw [execRegisterWrite, if_pos ((decodeWrite_registerWrite a v).2 h), hostWrite_settled hs]
  cases regAt a <;> rfl

/-- Settles O50. -/
theorem registerWriteIsIgnored : Obligations.RegisterWriteIsIgnored := by
  intro a v s hs
  refine ⟨fun h => ?_, fun h => ?_⟩
  · exact (execRegisterWrite_settled v hs (List.mem_append_left _ h)).trans (if_neg (regAt_of_readOnly h))
  · exact (execRegisterWrite_settled v hs (List.mem_append_right _ h)).trans (if_pos (regAt_of_unassigned h))

/-! ### TABLE_SELECT and TABLE_OFFSET (R170, R171) -/

/-- The record a selection names, by the number of its table and its index (R170). -/
def Names (x : Selection) (table index : Nat) : Prop :=
  (table = 0 ∧ ∃ n : EntryNo, x = .entry n ∧ n.val = index) ∨
    (table = 1 ∧ ∃ p : ProfileNo, x = .profile p ∧ p.val = index) ∨
    (table = 2 ∧ ∃ l : LaneNo, x = .lane l ∧ l.val = index) ∨
    (table = 3 ∧ ∃ k : SlotNo, x = .slot k ∧ k.val = index)

theorem selectionOf_some {v : Word} {table index : Nat} (ht : (v.extractLsb' 8 2).toNat = table)
    (hi : (v.extractLsb' 0 6).toNat = index)
    (h : table = 0 ∨ (table = 1 ∧ index < 16) ∨ (2 ≤ table ∧ index < 4)) :
    ∃ x, selectionOf v = some x ∧ Names x table index := by
  have hindex : index < 64 := hi ▸ (v.extractLsb' 0 6).isLt
  have htable : table < 4 := ht ▸ (v.extractLsb' 8 2).isLt
  unfold selectionOf fieldOf
  simp only [ht, hi]
  rcases h with rfl | ⟨rfl, h⟩ | ⟨h2, h⟩
  · exact ⟨_, dif_pos hindex, .inl ⟨rfl, _, rfl, rfl⟩⟩
  · exact ⟨_, dif_pos h, .inr (.inl ⟨rfl, _, rfl, rfl⟩)⟩
  · obtain rfl | rfl : table = 2 ∨ table = 3 := by omega
    · exact ⟨_, dif_pos h, .inr (.inr (.inl ⟨rfl, _, rfl, rfl⟩))⟩
    · exact ⟨_, dif_pos h, .inr (.inr (.inr ⟨rfl, _, rfl, rfl⟩))⟩

theorem selectionOf_none {v : Word} {table index : Nat} (ht : (v.extractLsb' 8 2).toNat = table)
    (hi : (v.extractLsb' 0 6).toNat = index) (h : (table = 1 ∧ 16 ≤ index) ∨ (2 ≤ table ∧ 4 ≤ index)) :
    selectionOf v = none := by
  have htable : table < 4 := ht ▸ (v.extractLsb' 8 2).isLt
  unfold selectionOf fieldOf
  simp only [ht, hi]
  rcases h with ⟨rfl, h⟩ | ⟨h2, h⟩
  · exact dif_neg (Nat.not_lt.2 h)
  · obtain rfl | rfl : table = 2 ∨ table = 3 := by omega
    · exact dif_neg (Nat.not_lt.2 h)
    · exact dif_neg (Nat.not_lt.2 h)

theorem execTableSelectWrite_some {v : Word} {x : Selection} (hs : s.Settled) (h : selectionOf v = some x) :
    execTableSelectWrite v s =
      .next { s with port := { s.port with select := x, offset := 0, data := none } } := by
  rw [execTableSelectWrite, hostWrite_settled hs, h]
  rfl

theorem execTableSelectWrite_none {v : Word} (hs : s.Settled) (h : selectionOf v = none) :
    execTableSelectWrite v s = .next { s with irq := withError s.irq .badIndex 0x30, port := undriven s.port } := by
  rw [execTableSelectWrite, hostWrite_settled hs, h]
  rfl

theorem imageSize_pos (x : Selection) : 0 < imageSize x := by cases x <;> simp [imageSize]

theorem imageSize_le (x : Selection) : imageSize x ≤ 48 := by cases x <;> simp [imageSize]

/-- A word number of an image fits its register. -/
theorem toNat_ofNat_mod_imageSize (i : Nat) (x : Selection) :
    (BitVec.ofNat 6 (i % imageSize x)).toNat = i % imageSize x := by
  have hlt := Nat.mod_lt i (imageSize_pos x)
  have hsize := imageSize_le x
  rw [BitVec.toNat_ofNat, Nat.mod_eq_of_lt (by omega)]

theorem execTableOffsetWrite_settled (v : Word) (hs : s.Settled) :
    execTableOffsetWrite v s =
      .next
        { s with
          port :=
            { s.port with
              offset := BitVec.ofNat 6 ((v.extractLsb' 0 6).toNat % imageSize s.port.select), data := none } } := by
  rw [execTableOffsetWrite, hostWrite_settled hs]
  rfl

/-- Settles O46. -/
theorem tableSelectAndOffset : Obligations.TableSelectAndOffset := by
  intro v s hs
  refine ⟨fun h => ?_, fun h => ?_, ?_⟩
  · obtain ⟨x, hx, hnames⟩ := selectionOf_some rfl rfl h
    exact ⟨x, execTableSelectWrite_some hs hx, hnames⟩
  · exact execTableSelectWrite_none hs (selectionOf_none rfl rfl h)
  · exact ⟨_, execTableOffsetWrite_settled v hs, toNat_ofNat_mod_imageSize _ _, rfl⟩

end Sys2Proof.Machine
end

section
/-! SUPPORT. The fields of a register word: what a field reads of a word made of placed values; then the head of the
Change Queue in its registers. -/

namespace Sys2Proof.Machine

variable {s : State} {v lo lo' len n i : Nat} {b : Bool}

/-! ### Bits and fields of a placed value -/

theorem bitOf_or (x y : Word) (i : Nat) : bitOf (x ||| y) i = (bitOf x i || bitOf y i) := BitVec.getLsbD_or

theorem bitOf_place (v lo i : Nat) :
    bitOf (place v lo) i = (decide (i < 16) && decide (lo ≤ i) && v.testBit (i - lo)) := by
  rw [bitOf, place, BitVec.getLsbD_ofNat, Nat.testBit_mul_two_pow, Bool.and_assoc]

/-- A value of `n` bits has no bit above its place. -/
theorem bitOf_place_above (hv : v < 2 ^ n) (h : lo + n ≤ i) : bitOf (place v lo) i = false := by
  have hbit : v.testBit (i - lo) = false :=
    Nat.testBit_lt_two_pow (lt_of_lt_of_le hv (Nat.pow_le_pow_right (by decide) (by omega)))
  rw [bitOf_place, hbit, Bool.and_false]

theorem bitOf_place_below (h : i < lo) : bitOf (place v lo) i = false := by
  simp [bitOf_place, Nat.not_le.2 h]

theorem bitOf_placeBit (b : Bool) (lo i : Nat) :
    bitOf (placeBit b lo) i = (decide (i < 16) && decide (i = lo) && b) := by
  rw [placeBit]
  rcases Nat.lt_trichotomy i lo with h | rfl | h
  · simp [bitOf_place_below h, h.ne]
  · rw [bitOf_place]
    cases b <;> simp
  · rw [bitOf_place_above (n := 1) (Bool.toNat_lt b) h]
    simp [h.ne']

/-- The number in the `len` bits of a word that begin at bit `lo`. -/
def fieldNat (w : Word) (lo len : Nat) : Nat := (w.extractLsb' lo len).toNat

theorem testBit_fieldNat (w : Word) (lo len i : Nat) :
    (fieldNat w lo len).testBit i = (decide (i < len) && bitOf w (lo + i)) := by
  rw [fieldNat, BitVec.testBit_toNat, BitVec.getLsbD_extractLsb', bitOf]

theorem fieldNat_or (x y : Word) (lo len : Nat) :
    fieldNat (x ||| y) lo len = fieldNat x lo len ||| fieldNat y lo len :=
  Nat.eq_of_testBit_eq fun i => by
    rw [Nat.testBit_or, testBit_fieldNat, testBit_fieldNat, testBit_fieldNat, bitOf_or, Bool.and_or_distrib_left]

theorem fieldNat_eq_zero {w : Word} (h : ∀ i, lo ≤ i → i < lo + len → bitOf w i = false) : fieldNat w lo len = 0 :=
  Nat.eq_of_testBit_eq fun i => by
    rw [testBit_fieldNat, Nat.zero_testBit]
    by_cases hi : i < len
    · rw [h (lo + i) (by omega) (by omega), Bool.and_false]
    · simp [hi]

theorem fieldNat_place_same (hv : v < 2 ^ len) (h : lo + len ≤ 16) : fieldNat (place v lo) lo len = v :=
  Nat.eq_of_testBit_eq fun i => by
    rw [testBit_fieldNat, bitOf_place]
    by_cases hi : i < len
    · simp [hi, show lo + i < 16 by omega]
    · simp [hi, Nat.testBit_lt_two_pow (lt_of_lt_of_le hv (Nat.pow_le_pow_right (by decide) (Nat.not_lt.1 hi)))]

/-- A value placed below a field leaves it 0. -/
theorem fieldNat_place_above (hv : v < 2 ^ n) (h : lo + n ≤ lo') : fieldNat (place v lo) lo' len = 0 :=
  fieldNat_eq_zero fun _ hi _ => bitOf_place_above hv (by omega)

/-- A value placed above a field leaves it 0. -/
theorem fieldNat_place_below (h : lo' + len ≤ lo) : fieldNat (place v lo) lo' len = 0 :=
  fieldNat_eq_zero fun _ _ hi => bitOf_place_below (by omega)

theorem fieldNat_placeBit_above (h : lo + 1 ≤ lo') : fieldNat (placeBit b lo) lo' len = 0 :=
  fieldNat_place_above (Bool.toNat_lt b) h

theorem fieldNat_placeBit_below (h : lo' + len ≤ lo) : fieldNat (placeBit b lo) lo' len = 0 := fieldNat_place_below h

/-! ### The ranges of the codes -/

theorem recordKindCode_lt (k : RecordKind) : recordKindCode k < 2 ^ 2 := by cases k <;> decide

theorem zoneCode_lt (z : Zone) : zoneCode z < 2 ^ 2 := by cases z <;> decide

theorem failCauseCode_lt (c : FailCause) : failCauseCode c < 2 ^ 2 := by cases c <;> decide

theorem cmdResultCode_lt (r : CmdResult) : cmdResultCode r < 2 ^ 4 := by cases r <;> decide

theorem errCodeCode_lt (c : ErrCode) : errCodeCode c < 2 ^ 4 := by cases c <;> decide

theorem slotStateCode_lt (x : SlotState) : slotStateCode x < 2 ^ 3 := by cases x <;> decide

theorem laneModeCode_lt (m : LaneMode) : laneModeCode m < 2 ^ 2 := by cases m <;> decide

/-! ### HEAD_INFO and HEAD_COUNT (R56, R57, R169) -/

theorem headInfoWord_empty {q : ChangeQueue} (h : q.records = []) : headInfoWord q = 0 := by
  simp only [headInfoWord, h]

theorem headInfoWord_cons {q : ChangeQueue} {r : Record} {rest : List Record} (h : q.records = r :: rest) :
    headInfoWord q =
      place (recordKindCode r.kind) 0 ||| placeBit r.initial 4 ||| placeBit r.skipped 5 |||
        placeBit r.deferred 6 ||| placeBit r.overwritten 7 ||| place r.entry 8 := by
  simp only [headInfoWord, h]

/-- The fields of HEAD_INFO with a record at the head. -/
theorem headInfoWord_fields {q : ChangeQueue} {r : Record} {rest : List Record} (h : q.records = r :: rest) :
    fieldNat (headInfoWord q) 0 2 = recordKindCode r.kind ∧ fieldNat (headInfoWord q) 8 6 = r.entry.val ∧
    bitOf (headInfoWord q) 4 = r.initial ∧ bitOf (headInfoWord q) 5 = r.skipped ∧
    bitOf (headInfoWord q) 6 = r.deferred ∧ bitOf (headInfoWord q) 7 = r.overwritten := by
  have hk := recordKindCode_lt r.kind
  have he : r.entry.val < 2 ^ 6 := r.entry.isLt
  rw [headInfoWord_cons h]
  refine ⟨?_, ?_, ?_, ?_, ?_, ?_⟩
  · simp [fieldNat_or, fieldNat_place_same hk, fieldNat_placeBit_below, fieldNat_place_below]
  · simp [fieldNat_or, fieldNat_place_same he, fieldNat_placeBit_above, fieldNat_place_above hk]
  · simp [bitOf_or, bitOf_placeBit, bitOf_place_above hk, bitOf_place_below]
  · simp [bitOf_or, bitOf_placeBit, bitOf_place_above hk, bitOf_place_below]
  · simp [bitOf_or, bitOf_placeBit, bitOf_place_above hk, bitOf_place_below]
  · simp [bitOf_or, bitOf_placeBit, bitOf_place_above hk, bitOf_place_below]

theorem headCountWord_fields {r : Record} (h : r.count < 2 ^ 8) :
    fieldNat (headCountWord r) 0 8 = r.count ∧ fieldNat (headCountWord r) 8 2 = zoneCode r.oldZone ∧
    fieldNat (headCountWord r) 10 2 = zoneCode r.newZone ∧ fieldNat (headCountWord r) 12 2 = failCauseCode r.cause := by
  have ho := zoneCode_lt r.oldZone
  have hn := zoneCode_lt r.newZone
  have hc := failCauseCode_lt r.cause
  unfold headCountWord
  refine ⟨?_, ?_, ?_, ?_⟩
  · simp [fieldNat_or, fieldNat_place_same h, fieldNat_place_below]
  · simp [fieldNat_or, fieldNat_place_same ho, fieldNat_place_above h, fieldNat_place_below]
  · simp [fieldNat_or, fieldNat_place_same hn, fieldNat_place_above h, fieldNat_place_above ho, fieldNat_place_below]
  · simp [fieldNat_or, fieldNat_place_same hc, fieldNat_place_above h, fieldNat_place_above ho, fieldNat_place_above hn]

/-! ### Reads of the head (R56, R57) -/

theorem execHeadInfoRead_empty (hs : s.Settled) (h : s.queue.records = []) :
    execHeadInfoRead s = .next { s with port := { s.port with data := some 0 } } := by
  have hopen : openHead s = s := by simp only [openHead, h]
  rw [execHeadInfoRead, hostRead_settled hs, hopen, headInfoWord_empty h]

theorem execHeadInfoRead_opens {r : Record} {q : List Record} (hs : s.Settled) (h : s.queue.records = r :: q) :
    execHeadInfoRead s =
      .next
        { s with
          queue := { s.queue with held := true }, port := { s.port with data := some (headInfoWord s.queue) } } := by
  have hopen : openHead s = { s with queue := { s.queue with held := true } } := by simp only [openHead, h]
  rw [execHeadInfoRead, hostRead_settled hs, hopen]

theorem readRegister_settled (hs : s.Settled) (a : Addr) : readRegister s a = some (registerValue s (regAt a)) := by
  rw [readRegister, hs.1, settleDues_nil hs.2]
  rfl

theorem heldField_clear (h : s.queue.held = false) (f : Record → Word) : heldField s f = 0 := by
  simp only [heldField, h]

theorem heldField_held {r : Record} {q : List Record} (h : s.queue.held = true) (hq : s.queue.records = r :: q)
    (f : Record → Word) : heldField s f = f r := by
  simp only [heldField, h, hq]

/-- The registers of the head read 0 while no head is held (R57). -/
theorem readRegister_head_clear (hs : s.Settled) (h : s.queue.held = false) {a : Addr}
    (ha : a ∈ ([0x0D, 0x0E, 0x0F, 0x10, 0x11, 0x12, 0x13, 0x14, 0x15, 0x16] : List Addr)) :
    readRegister s a = some 0 := by
  rw [readRegister_settled hs]
  simp only [List.mem_cons, List.not_mem_nil, or_false] at ha
  rcases ha with rfl | rfl | rfl | rfl | rfl | rfl | rfl | rfl | rfl | rfl <;> exact congrArg some (heldField_clear h _)

/-- Settles O42. -/
theorem headInfoReadOpensTheHead : Obligations.HeadInfoReadOpensTheHead := by
  intro s hs
  refine ⟨execHeadInfoRead_empty hs, fun r q hq => ⟨_, execHeadInfoRead_opens hs hq, headInfoWord_fields hq⟩,
    fun h a ha => readRegister_head_clear hs h ha, fun r q h hq hc => ?_, rfl, rfl, rfl⟩
  have hread : ∀ (a : Addr) (f : Record → Word), registerValue s (regAt a) = heldField s f →
      readRegister s a = some (f r) := fun a f hf => by
    rw [readRegister_settled hs, hf, heldField_held h hq]
  exact ⟨hread _ (·.seq) rfl, ⟨_, hread _ headCountWord rfl, headCountWord_fields hc⟩,
    hread _ (hiHalf ·.old) rfl, hread _ (loHalf ·.old) rfl, hread _ (hiHalf ·.new) rfl, hread _ (loHalf ·.new) rfl,
    hread _ (hiHalf ·.first) rfl, hread _ (loHalf ·.first) rfl, hread _ (hiHalf ·.latest) rfl,
    hread _ (loHalf ·.latest) rfl⟩

end Sys2Proof.Machine
end

section
/-! SUPPORT. The interrupt line, the registers that show states, and the reads of the host bus. -/

namespace Sys2Proof.Machine

variable {s : State}

/-! ### The interrupt causes (R74, R163, R164) -/

theorem bitOf_irqCauses (s : State) :
    bitOf (irqCauses s) 0 = queueCondition s ∧ bitOf (irqCauses s) 1 = s.irq.cmdDone ∧
    bitOf (irqCauses s) 2 = s.irq.direct ∧ bitOf (irqCauses s) 3 = s.irq.accessErr := by
  simp [irqCauses, bitOf_or, bitOf_placeBit]

theorem irqCauses_lt (s : State) : (irqCauses s).toNat < 16 := by
  refine Nat.lt_pow_two_of_testBit (n := 4) _ fun i hi => ?_
  have hbit : bitOf (irqCauses s) i = false := by
    simp [irqCauses, bitOf_or, bitOf_placeBit, show i ≠ 0 by omega, show i ≠ 1 by omega, show i ≠ 2 by omega,
      show i ≠ 3 by omega]
  exact hbit

theorem queueCondition_iff (s : State) :
    queueCondition s = true ↔
      (s.queue.level ≠ 0 ∧ s.queue.level ≤ s.queue.records.length) ∨
        ∃ r q, s.queue.records = r :: q ∧ s.queue.ageLimit ≠ 0 ∧
          s.queue.ageLimit.toNat ≤ (s.sched.time - r.first).toNat := by
  rw [queueCondition, Bool.or_eq_true]
  refine or_congr (by simp [levelTerm]) ?_
  cases h : s.queue.records with
  | nil => simp [ageTerm, h]
  | cons r q => simp [ageTerm, h]

theorem irqLow_iff (hr : s.inReset = false) :
    s.irqLow = true ↔ ∃ i, i < 4 ∧ bitOf (irqCauses s) i = true ∧ s.irq.enable.getLsbD i = true := by
  obtain ⟨h0, h1, h2, h3⟩ := bitOf_irqCauses s
  have hlow : s.irqLow = true ↔
      (queueCondition s = true ∧ s.irq.enable.getLsbD 0 = true) ∨
        (s.irq.cmdDone = true ∧ s.irq.enable.getLsbD 1 = true) ∨
        (s.irq.direct = true ∧ s.irq.enable.getLsbD 2 = true) ∨
        (s.irq.accessErr = true ∧ s.irq.enable.getLsbD 3 = true) := by
    simp only [State.irqLow, hr, Bool.not_false, Bool.true_and, Bool.or_eq_true, Bool.and_eq_true, or_assoc]
  rw [hlow, ← h0, ← h1, ← h2, ← h3]
  refine ⟨?_, ?_⟩
  · rintro (h | h | h | h)
    · exact ⟨0, by decide, h⟩
    · exact ⟨1, by decide, h⟩
    · exact ⟨2, by decide, h⟩
    · exact ⟨3, by decide, h⟩
  · rintro ⟨i, hi, h⟩
    interval_cases i
    · exact .inl h
    · exact .inr (.inl h)
    · exact .inr (.inr (.inl h))
    · exact .inr (.inr (.inr h))

/-! ### The registers that show states (R169) -/

theorem anyPending_iff (s : State) : anyPending s = true ↔ ∃ n, (s.entry n).run.pending ≠ .none := by
  simp only [anyPending, List.any_eq_true, bne_iff_ne, ne_eq]
  refine ⟨?_, ?_⟩
  · rintro ⟨e, he, hp⟩
    obtain ⟨n, hn, rfl⟩ := List.getElem_of_mem he
    refine ⟨⟨n, by simpa using hn⟩, ?_⟩
    simpa [State.entry] using hp
  · rintro ⟨n, hp⟩
    exact ⟨s.entry n, by simp [State.entry], hp⟩

theorem statusWord_fields (s : State) :
    bitOf (statusWord s) 0 = s.sched.running ∧ bitOf (statusWord s) 1 = cmdBusy s ∧
    bitOf (statusWord s) 2 = s.queue.held ∧ bitOf (statusWord s) 3 = anyPending s ∧
    (s.queue.records.length ≤ 32 → fieldNat (statusWord s) 8 6 = s.queue.records.length) := by
  refine ⟨?_, ?_, ?_, ?_, fun h => ?_⟩
  · simp [statusWord, bitOf_or, bitOf_placeBit, bitOf_place_below]
  · simp [statusWord, bitOf_or, bitOf_placeBit, bitOf_place_below]
  · simp [statusWord, bitOf_or, bitOf_placeBit, bitOf_place_below]
  · simp [statusWord, bitOf_or, bitOf_placeBit, bitOf_place_below]
  · have hlen : s.queue.records.length < 2 ^ 6 := by omega
    simp [statusWord, fieldNat_or, fieldNat_place_same hlen, fieldNat_placeBit_above]

theorem cmdResult_fields (r : CmdResult) (b : Bool) :
    fieldNat (place (cmdResultCode r) 0 ||| placeBit b 8) 0 4 = cmdResultCode r ∧
      bitOf (place (cmdResultCode r) 0 ||| placeBit b 8) 8 = b := by
  have hr := cmdResultCode_lt r
  exact ⟨by simp [fieldNat_or, fieldNat_place_same hr, fieldNat_placeBit_below],
    by simp [bitOf_or, bitOf_placeBit, bitOf_place_above hr]⟩

theorem errInfo_fields (o : Byte) (c : ErrCode) :
    fieldNat (place o.toNat 0 ||| place (errCodeCode c) 8) 0 8 = o.toNat ∧
      fieldNat (place o.toNat 0 ||| place (errCodeCode c) 8) 8 4 = errCodeCode c := by
  have ho : o.toNat < 2 ^ 8 := o.isLt
  have hc := errCodeCode_lt c
  exact ⟨by simp [fieldNat_or, fieldNat_place_same ho, fieldNat_place_below],
    by simp [fieldNat_or, fieldNat_place_same hc, fieldNat_place_above ho]⟩

theorem directStateWord_eq (s : State) :
    directStateWord s =
      place (slotStateCode (s.slot 0).state) 0 ||| place (slotStateCode (s.slot 1).state) 4 |||
        place (slotStateCode (s.slot 2).state) 8 ||| place (slotStateCode (s.slot 3).state) 12 := by
  rw [directStateWord, show List.finRange 4 = [0, 1, 2, 3] by decide]
  simp

theorem directStateWord_fields (s : State) (k : SlotNo) :
    fieldNat (directStateWord s) (4 * k.val) 3 = slotStateCode (s.slot k).state := by
  have hlt : ∀ j : SlotNo, slotStateCode (s.slot j).state < 2 ^ 3 := fun j => slotStateCode_lt _
  rw [directStateWord_eq]
  fin_cases k <;>
    simp [fieldNat_or, fieldNat_place_same (hlt _), fieldNat_place_above (hlt _), fieldNat_place_below]

theorem laneStateWord_eq (s : State) :
    let part : LaneNo → Nat → Word := fun l lo =>
      place (laneModeCode (s.lane l).mode) lo ||| placeBit ((s.lane l).phase != .idle) (lo + 2)
    laneStateWord s = part 0 0 ||| part 1 4 ||| part 2 8 ||| part 3 12 := by
  rw [laneStateWord, show List.finRange 4 = [0, 1, 2, 3] by decide]
  simp [BitVec.or_assoc]

theorem laneStateWord_fields (s : State) (l : LaneNo) :
    fieldNat (laneStateWord s) (4 * l.val) 2 = laneModeCode (s.lane l).mode ∧
      bitOf (laneStateWord s) (4 * l.val + 2) = ((s.lane l).phase != .idle) := by
  have hlt : ∀ j : LaneNo, laneModeCode (s.lane j).mode < 2 ^ 2 := fun j => laneModeCode_lt _
  rw [laneStateWord_eq]
  refine ⟨?_, ?_⟩
  · fin_cases l <;>
      simp [fieldNat_or, fieldNat_place_same (hlt _), fieldNat_place_above (hlt _), fieldNat_place_below,
        fieldNat_placeBit_above, fieldNat_placeBit_below]
  · fin_cases l <;> simp [bitOf_or, bitOf_placeBit, bitOf_place_above (hlt _), bitOf_place_below]

theorem bne_eq_decide_ne (p q : Phase) : (p != q) = decide (p ≠ q) := by
  rw [bne, Bool.eq_iff_iff]
  simp

/-! ### Reads of the host bus (R167) -/

theorem plainRead_settled (hs : s.Settled) (a : Addr) :
    plainRead a s = .next { s with port := { s.port with data := some (registerValue s (regAt a)) } } := by
  rw [plainRead, hostRead_settled hs]

/-- The reads that have a row of their own: HEAD_INFO, TIME_HI and TABLE_DATA. -/
theorem decodeRead_eq_none {a : Addr} (h : a ∉ ([0x0A, 0x0C, 0x1A] : List Addr)) : decodeRead a = none := by
  revert a; decide

/-- A read drives the value of its register. -/
theorem hostCycle_read (hs : s.Settled) (a : Addr) :
    ∃ t, hostCycle (.read a) s = .next t ∧ t.port.data = readRegister s a ∧
      (a ∉ ([0x0A, 0x0C, 0x1A] : List Addr) → t = { s with port := { s.port with data := t.port.data } }) := by
  rw [readRegister_settled hs]
  by_cases h : a ∈ ([0x0A, 0x0C, 0x1A] : List Addr)
  · simp only [List.mem_cons, List.not_mem_nil, or_false] at h
    rcases h with rfl | rfl | rfl
    · exact ⟨_, execTimeHiRead_settled hs, rfl, fun h => absurd (by decide) h⟩
    · have hread : execHeadInfoRead s = _ := hostRead_settled hs
      exact ⟨_, hread, rfl, fun h => absurd (by decide) h⟩
    · have hread : execTableDataRead s = _ := hostRead_settled hs
      exact ⟨_, hread, rfl, fun h => absurd (by decide) h⟩
  · have hread : hostCycle (.read a) s = plainRead a s := by simp only [hostCycle, decodeRead_eq_none h]
    exact ⟨_, hread.trans (plainRead_settled hs a), rfl, fun _ => rfl⟩

/-- Settles O51. -/
theorem interruptLineFollowsItsCauses : Obligations.InterruptLineFollowsItsCauses := by
  intro s hr hd
  have hs : s.Settled := ⟨hr, hd⟩
  have hread := readRegister_settled hs
  obtain ⟨h0, h1, h2, h3⟩ := bitOf_irqCauses s
  obtain ⟨hrun, hbusy, hheld, hany, hlen⟩ := statusWord_fields s
  obtain ⟨hres, hended⟩ := cmdResult_fields s.cmd.result s.cmd.endedReset
  obtain ⟨hoff, hcode⟩ := errInfo_fields s.irq.errOffset s.irq.errCode
  refine ⟨_, hread 0x05, irqCauses_lt s, ?_, h1, h2, h3, irqLow_iff hr, ⟨_, hread 0x02, hrun, hbusy, hheld, ?_, hlen⟩,
    hread 0x03, ⟨_, hread 0x04, hres, hended⟩, ⟨_, hread 0x1B, BitVec.eq_of_toNat_eq hoff, hcode⟩,
    ⟨_, hread 0x1C, directStateWord_fields s⟩, ⟨_, hread 0x1D, fun l => ?_⟩, rfl, rfl, rfl, rfl, hostCycle_read hs⟩
  · exact (Bool.eq_iff_iff.1 h0).trans (queueCondition_iff s)
  · exact (Bool.eq_iff_iff.1 hany).trans (anyPending_iff s)
  · obtain ⟨hmode, hphase⟩ := laneStateWord_fields s l
    exact ⟨hmode, hphase.trans (bne_eq_decide_ne _ _)⟩

end Sys2Proof.Machine
end

section
/-! SUPPORT. The table window: what a read of TABLE_DATA latches, and what a write to it stores. -/

namespace Sys2Proof.Machine

variable {s : State} {i : Nat}

/-! ### A read of TABLE_DATA (R171, R172) -/

/-- The state after a read of TABLE_DATA (R171). -/
def tableDataRead (s : State) : State :=
  { advanceOffset (latchSnapshot s) with
    port := { (advanceOffset (latchSnapshot s)).port with data := some (tableWord (latchSnapshot s)) } }

theorem execTableDataRead_settled (hs : s.Settled) : execTableDataRead s = .next (tableDataRead s) := by
  rw [execTableDataRead, hostRead_settled hs]
  rfl

theorem latchSnapshot_entry {n : EntryNo} (h : s.port.select = .entry n) (ho : s.port.offset.toNat = 0x20) :
    latchSnapshot s = { s with port := { s.port with entrySnap := entryRuntimeWords (s.entry n).run } } := by
  have hoff : s.port.offset = 0x20 := BitVec.eq_of_toNat_eq ho
  simp only [latchSnapshot, h]
  exact if_pos hoff

theorem latchSnapshot_entry_other {n : EntryNo} (h : s.port.select = .entry n) (ho : s.port.offset.toNat ≠ 0x20) :
    latchSnapshot s = s := by
  simp only [latchSnapshot, h]
  exact if_neg fun hoff => ho (by rw [hoff]; rfl)

theorem latchSnapshot_lane {l : LaneNo} (h : s.port.select = .lane l) (ho : s.port.offset.toNat = 0x01) :
    latchSnapshot s =
      { s with
        port := { s.port with laneSnap := laneStateWords (s.lane l) (Config.idleOwnerNumber s.freeCount) }
        freeCount := s.freeCount + 1 } := by
  have hoff : s.port.offset = 0x01 := BitVec.eq_of_toNat_eq ho
  simp only [latchSnapshot, h]
  exact if_pos hoff

theorem latchSnapshot_lane_other {l : LaneNo} (h : s.port.select = .lane l) (ho : s.port.offset.toNat ≠ 0x01) :
    latchSnapshot s = s := by
  simp only [latchSnapshot, h]
  exact if_neg fun hoff => ho (by rw [hoff]; rfl)

theorem latchSnapshot_profile {p : ProfileNo} (h : s.port.select = .profile p) : latchSnapshot s = s := by
  simp only [latchSnapshot, h]

theorem latchSnapshot_slot {k : SlotNo} (h : s.port.select = .slot k) : latchSnapshot s = s := by
  simp only [latchSnapshot, h]

/-- A latching read changes the snapshot of its record alone (R172). -/
theorem latchSnapshot_frame (s : State) :
    latchSnapshot s =
      { s with
        port :=
          { s.port with entrySnap := (latchSnapshot s).port.entrySnap, laneSnap := (latchSnapshot s).port.laneSnap }
        freeCount := (latchSnapshot s).freeCount } := by
  unfold latchSnapshot
  cases s.port.select with
  | entry n => dsimp only; split <;> rfl
  | lane l => dsimp only; split <;> rfl
  | profile p => rfl
  | slot k => rfl

theorem tableDataRead_port (s : State) :
    (tableDataRead s).port =
      { s.port with
        offset := BitVec.ofNat 6 ((s.port.offset.toNat + 1) % imageSize s.port.select)
        entrySnap := (tableDataRead s).port.entrySnap, laneSnap := (tableDataRead s).port.laneSnap
        data := (tableDataRead s).port.data } := by
  have hframe := latchSnapshot_frame s
  unfold tableDataRead advanceOffset
  generalize latchSnapshot s = u at hframe ⊢
  rw [hframe]

theorem tableDataRead_frame (s : State) :
    tableDataRead s = { s with port := (tableDataRead s).port, freeCount := (tableDataRead s).freeCount } := by
  have hframe := latchSnapshot_frame s
  unfold tableDataRead advanceOffset
  generalize latchSnapshot s = u at hframe ⊢
  rw [hframe]

/-! ### The word read -/

theorem tableWord_entry_config {n : EntryNo} (h : s.port.select = .entry n) (hi : s.port.offset.toNat = i)
    (hr : i < 0x20 ∨ 0x27 < i) : tableWord s = entryConfigWord (s.entry n).cfg i := by
  simp only [tableWord, h, hi]
  exact if_neg (by omega)

theorem tableWord_entry_snapshot {n : EntryNo} {j : Nat} (h : s.port.select = .entry n)
    (hj : j < Config.entrySnapSize) (hi : s.port.offset.toNat = 0x20 + j) : tableWord s = s.port.entrySnap[j] := by
  have hsize : Config.entrySnapSize = 8 := rfl
  simp only [tableWord, h, hi]
  rw [if_pos (by omega), show 0x20 + j - 0x20 = j by omega, Vector.getElem?_eq_getElem hj]
  rfl

theorem tableWord_lane_config {l : LaneNo} (h : s.port.select = .lane l) (hi : s.port.offset.toNat = 0) :
    tableWord s = laneConfigWord (s.lane l) := by
  simp only [tableWord, h, hi]
  rfl

theorem tableWord_lane_beyond {l : LaneNo} (h : s.port.select = .lane l) (hi : 0x13 < s.port.offset.toNat) :
    tableWord s = 0 := by
  simp only [tableWord, h]
  rw [if_neg (by omega), if_neg (by omega)]

theorem tableWord_lane_snapshot {l : LaneNo} {j : Nat} (h : s.port.select = .lane l)
    (hj : j < Config.laneSnapSize) (hi : s.port.offset.toNat = 0x01 + j) : tableWord s = s.port.laneSnap[j] := by
  have hsize : Config.laneSnapSize = 19 := rfl
  simp only [tableWord, h, hi]
  rw [if_neg (by omega), if_pos (by omega), show 0x01 + j - 0x01 = j by omega, Vector.getElem?_eq_getElem hj]
  rfl

theorem tableWord_profile {p : ProfileNo} (h : s.port.select = .profile p) :
    tableWord s = profileWord (s.profile p) s.port.offset.toNat := by
  simp only [tableWord, h]

theorem tableWord_slot {k : SlotNo} (h : s.port.select = .slot k) :
    tableWord s = slotWord (s.slot k) s.port.offset.toNat := by
  simp only [tableWord, h]

theorem tableDataRead_data (s : State) : (tableDataRead s).port.data = some (tableWord (latchSnapshot s)) := rfl

/-- A read that latches nothing. -/
theorem tableDataRead_unlatched (h : latchSnapshot s = s) :
    (tableDataRead s).port.entrySnap = s.port.entrySnap ∧ (tableDataRead s).port.laneSnap = s.port.laneSnap ∧
      (tableDataRead s).freeCount = s.freeCount ∧ (tableDataRead s).port.data = some (tableWord s) := by
  refine ⟨?_, ?_, ?_, ?_⟩ <;> simp only [tableDataRead, advanceOffset, h]

/-- The latching read of an entry (R172). -/
theorem tableDataRead_entry_latch {n : EntryNo} (h : s.port.select = .entry n) (ho : s.port.offset.toNat = 0x20) :
    (tableDataRead s).port.entrySnap = entryRuntimeWords (s.entry n).run ∧
      (tableDataRead s).port.laneSnap = s.port.laneSnap ∧ (tableDataRead s).freeCount = s.freeCount ∧
      (tableDataRead s).port.data = some ((entryRuntimeWords (s.entry n).run)[0]'(by decide)) := by
  have hlatch := latchSnapshot_entry h ho
  refine ⟨?_, ?_, ?_, ?_⟩
  · simp only [tableDataRead, advanceOffset, hlatch]
  · simp only [tableDataRead, advanceOffset, hlatch]
  · simp only [tableDataRead, advanceOffset, hlatch]
  · rw [tableDataRead_data, hlatch]
    refine congrArg some ((tableWord_entry_snapshot (n := n) (j := 0) ?_ (by decide) ?_).trans rfl)
    · exact h
    · exact ho

/-- The latching read of a lane (R172). -/
theorem tableDataRead_lane_latch {l : LaneNo} (h : s.port.select = .lane l) (ho : s.port.offset.toNat = 0x01) :
    (tableDataRead s).port.laneSnap = laneStateWords (s.lane l) (Config.idleOwnerNumber s.freeCount) ∧
      (tableDataRead s).port.entrySnap = s.port.entrySnap ∧
      (tableDataRead s).port.data =
        some ((laneStateWords (s.lane l) (Config.idleOwnerNumber s.freeCount))[0]'(by decide)) := by
  have hlatch := latchSnapshot_lane h ho
  refine ⟨?_, ?_, ?_⟩
  · simp only [tableDataRead, advanceOffset, hlatch]
  · simp only [tableDataRead, advanceOffset, hlatch]
  · rw [tableDataRead_data, hlatch]
    refine congrArg some ((tableWord_lane_snapshot (l := l) (j := 0) ?_ (by decide) ?_).trans rfl)
    · exact h
    · exact ho

/-- Settles O47, by the table of the selected record and the place of the word. -/
theorem tableDataReadLatchesAndAdvances : Obligations.TableDataReadLatchesAndAdvances := by
  intro s hs
  refine ⟨_, execTableDataRead_settled hs, tableDataRead_port s, tableDataRead_frame s, fun n hn => ?_, fun l hl => ?_,
    fun p hp => ?_, fun k hk => ?_⟩
  · by_cases ho : s.port.offset.toNat = 0x20
    · obtain ⟨hsnap, hlane, hfree, hdata⟩ := tableDataRead_entry_latch hn ho
      exact ⟨hlane, hfree, fun _ => ⟨hsnap, hdata⟩, fun h => absurd ho h, fun j _ h1 hj => by omega,
        fun h => by omega⟩
    · obtain ⟨hsnap, hlane, hfree, hdata⟩ := tableDataRead_unlatched (latchSnapshot_entry_other hn ho)
      exact ⟨hlane, hfree, fun h => absurd h ho, fun _ => hsnap,
        fun j hj _ hi => hdata.trans (congrArg some (tableWord_entry_snapshot hn hj hi)),
        fun h => hdata.trans (congrArg some (tableWord_entry_config hn rfl h))⟩
  · by_cases ho : s.port.offset.toNat = 0x01
    · obtain ⟨hsnap, hentry, hdata⟩ := tableDataRead_lane_latch hl ho
      refine ⟨hentry, fun _ => ⟨⟨_, hsnap⟩, ?_⟩, fun h => absurd ho h, fun j _ h1 hj => by omega, fun h => by omega,
        fun h => by omega⟩
      simp only [hsnap, hdata]
    · obtain ⟨hentry, hsnap, _, hdata⟩ := tableDataRead_unlatched (latchSnapshot_lane_other hl ho)
      exact ⟨hentry, fun h => absurd h ho, fun _ => hsnap,
        fun j hj _ hi => hdata.trans (congrArg some (tableWord_lane_snapshot hl hj hi)),
        fun h => hdata.trans (congrArg some (tableWord_lane_config hl h)),
        fun h => hdata.trans (congrArg some (tableWord_lane_beyond hl h))⟩
  · obtain ⟨hentry, hlane, _, hdata⟩ := tableDataRead_unlatched (latchSnapshot_profile hp)
    exact ⟨hentry, hlane, hdata.trans (congrArg some (tableWord_profile hp))⟩
  · obtain ⟨hentry, hlane, _, hdata⟩ := tableDataRead_unlatched (latchSnapshot_slot hk)
    exact ⟨hentry, hlane, hdata.trans (congrArg some (tableWord_slot hk))⟩

/-! ### A write to TABLE_DATA (R21, R106, R110, R144) -/

/-- The state after a write to TABLE_DATA (R171). -/
def tableDataWritten (v : Word) (s : State) : State :=
  advanceOffset (writeTableWord v { s with port := undriven s.port })

theorem execTableDataWrite_settled (v : Word) (hs : s.Settled) :
    execTableDataWrite v s = .next (tableDataWritten v s) := by
  rw [execTableDataWrite, hostWrite_settled hs]
  rfl

theorem entryWordClass_eq (i : Nat) :
    (i ≤ 0x19 → entryWordClass i = .config) ∧ (0x20 ≤ i → i ≤ 0x27 → entryWordClass i = .readOnly) ∧
    ((0x1A ≤ i ∧ i ≤ 0x1F) ∨ 0x28 ≤ i → entryWordClass i = .unassigned) := by
  unfold entryWordClass
  refine ⟨fun h => if_pos h, fun h1 h2 => ?_, fun h => ?_⟩
  · rw [if_neg (by omega), if_pos ⟨h1, h2⟩]
  · rw [if_neg (by omega), if_neg (by omega)]

theorem profileWordClass_eq (i : Nat) :
    (i ≤ 0x05 → profileWordClass i = .config) ∧ (i = 0x06 → profileWordClass i = .readOnly) ∧
    (0x07 ≤ i → profileWordClass i = .unassigned) := by
  unfold profileWordClass
  refine ⟨fun h => if_pos h, fun h => ?_, fun h => ?_⟩
  · rw [if_neg (by omega), if_pos h]
  · rw [if_neg (by omega), if_neg (by omega)]

theorem laneWordClass_eq (i : Nat) :
    (i = 0 → laneWordClass i = .config) ∧ (1 ≤ i → i ≤ 0x13 → laneWordClass i = .readOnly) ∧
    (0x14 ≤ i → laneWordClass i = .unassigned) := by
  unfold laneWordClass
  refine ⟨fun h => if_pos h, fun h1 h2 => ?_, fun h => ?_⟩
  · rw [if_neg (by omega), if_pos h2]
  · rw [if_neg (by omega), if_neg (by omega)]

theorem slotWordClass_eq (i : Nat) :
    (i = 0 ∨ (0x08 ≤ i ∧ i ≤ 0x17) → slotWordClass i = .config) ∧
    (i = 1 ∨ i = 2 ∨ (0x18 ≤ i ∧ i ≤ 0x27) → slotWordClass i = .readOnly) ∧
    ((3 ≤ i ∧ i ≤ 7) ∨ 0x28 ≤ i → slotWordClass i = .unassigned) := by
  unfold slotWordClass
  refine ⟨fun h => ?_, fun h => ?_, fun h => ?_⟩
  · rcases h with rfl | ⟨h1, h2⟩
    · rfl
    · rw [if_neg (by omega), if_neg (by omega), if_neg (by omega), if_pos h2]
  · by_cases h2 : i ≤ 2
    · rw [if_neg (by omega), if_pos h2]
    · rw [if_neg (by omega), if_neg h2, if_neg (by omega), if_neg (by omega), if_pos (by omega)]
  · by_cases h7 : i ≤ 7
    · rw [if_neg (by omega), if_neg (by omega), if_pos h7]
    · rw [if_neg (by omega), if_neg (by omega), if_neg h7, if_neg (by omega), if_neg (by omega)]

theorem writeEntryWord_eq (n : EntryNo) (i : Nat) (v : Word) (s : State) :
    (i ≤ 0x19 → (s.entry n).run.state = .off →
      writeEntryWord n i v s = s.setEntry n { s.entry n with cfg := writeEntryConfig i v (s.entry n).cfg }) ∧
    (i ≤ 0x19 → (s.entry n).run.state ≠ .off → writeEntryWord n i v s = ignoredWrite .tableLocked s) ∧
    (0x20 ≤ i → i ≤ 0x27 → writeEntryWord n i v s = ignoredWrite .readOnly s) ∧
    ((0x1A ≤ i ∧ i ≤ 0x1F) ∨ 0x28 ≤ i → writeEntryWord n i v s = s) := by
  obtain ⟨hconfig, hread, hnone⟩ := entryWordClass_eq i
  refine ⟨fun h hopen => ?_, fun h hlocked => ?_, fun h1 h2 => ?_, fun h => ?_⟩
  · simp only [writeEntryWord, hconfig h]
    exact if_pos hopen
  · simp only [writeEntryWord, hconfig h]
    exact if_neg hlocked
  · simp only [writeEntryWord, hread h1 h2]
  · simp only [writeEntryWord, hnone h]

theorem writeProfileWord_eq (p : ProfileNo) (i : Nat) (v : Word) (s : State) :
    (i ≤ 0x05 → (s.profile p).useCount = 0 →
      writeProfileWord p i v s = s.setProfile p (writeProfileConfig i v (s.profile p))) ∧
    (i ≤ 0x05 → (s.profile p).useCount ≠ 0 → writeProfileWord p i v s = ignoredWrite .tableLocked s) ∧
    (i = 0x06 → writeProfileWord p i v s = ignoredWrite .readOnly s) ∧
    (0x07 ≤ i → writeProfileWord p i v s = s) := by
  obtain ⟨hconfig, hread, hnone⟩ := profileWordClass_eq i
  refine ⟨fun h hopen => ?_, fun h hlocked => ?_, fun h => ?_, fun h => ?_⟩
  · simp only [writeProfileWord, hconfig h]
    exact if_pos hopen
  · simp only [writeProfileWord, hconfig h]
    exact if_neg hlocked
  · simp only [writeProfileWord, hread h]
  · simp only [writeProfileWord, hnone h]

theorem writeLaneWord_eq (l : LaneNo) (i : Nat) (v : Word) (s : State) :
    (i = 0 → (s.lane l).mode = .held →
      writeLaneWord l i v s = s.setLane l (writeLaneConfig v (s.lane l))) ∧
    (i = 0 → (s.lane l).mode ≠ .held → writeLaneWord l i v s = ignoredWrite .tableLocked s) ∧
    (1 ≤ i → i ≤ 0x13 → writeLaneWord l i v s = ignoredWrite .readOnly s) ∧
    (0x14 ≤ i → writeLaneWord l i v s = s) := by
  obtain ⟨hconfig, hread, hnone⟩ := laneWordClass_eq i
  refine ⟨fun h hopen => ?_, fun h hlocked => ?_, fun h1 h2 => ?_, fun h => ?_⟩
  · simp only [writeLaneWord, hconfig h]
    exact if_pos hopen
  · simp only [writeLaneWord, hconfig h]
    exact if_neg hlocked
  · simp only [writeLaneWord, hread h1 h2]
  · simp only [writeLaneWord, hnone h]

theorem writeSlotWord_eq (k : SlotNo) (i : Nat) (v : Word) (s : State) :
    (i = 0 ∨ (0x08 ≤ i ∧ i ≤ 0x17) → (s.slot k).state = .free →
      writeSlotWord k i v s = s.setSlot k { s.slot k with req := writeSlotRequest i v (s.slot k).req }) ∧
    (i = 0 ∨ (0x08 ≤ i ∧ i ≤ 0x17) → (s.slot k).state ≠ .free → writeSlotWord k i v s = ignoredWrite .tableLocked s) ∧
    (i = 1 ∨ i = 2 ∨ (0x18 ≤ i ∧ i ≤ 0x27) → writeSlotWord k i v s = ignoredWrite .readOnly s) ∧
    ((3 ≤ i ∧ i ≤ 7) ∨ 0x28 ≤ i → writeSlotWord k i v s = s) := by
  obtain ⟨hconfig, hread, hnone⟩ := slotWordClass_eq i
  refine ⟨fun h hopen => ?_, fun h hlocked => ?_, fun h => ?_, fun h => ?_⟩
  · simp only [writeSlotWord, hconfig h]
    exact if_pos hopen
  · simp only [writeSlotWord, hconfig h]
    exact if_neg hlocked
  · simp only [writeSlotWord, hread h]
  · simp only [writeSlotWord, hnone h]

theorem writeTableWord_port (v : Word) (s : State) : (writeTableWord v s).port = s.port := by
  unfold writeTableWord
  cases s.port.select with
  | entry n => dsimp only [writeEntryWord]; split <;> [rfl; rfl; (split <;> rfl)]
  | profile p => dsimp only [writeProfileWord]; split <;> [rfl; rfl; (split <;> rfl)]
  | lane l => dsimp only [writeLaneWord]; split <;> [rfl; rfl; (split <;> rfl)]
  | slot k => dsimp only [writeSlotWord]; split <;> [rfl; rfl; (split <;> rfl)]

theorem tableDataWritten_port (v : Word) (s : State) :
    (tableDataWritten v s).port =
      { s.port with
        offset := BitVec.ofNat 6 ((s.port.offset.toNat + 1) % imageSize s.port.select), data := none } := by
  simp only [tableDataWritten, advanceOffset, writeTableWord_port]
  rfl

/-- What a write to TABLE_DATA stores is what the owner of the selected record makes of it. -/
theorem tableDataWritten_eq {v : Word} {u : State}
    (h : writeTableWord v { s with port := undriven s.port } = { u with port := undriven s.port }) :
    tableDataWritten v s = { u with port := (tableDataWritten v s).port } := by
  unfold tableDataWritten
  rw [h]
  rfl

theorem writeTableWord_entry {n : EntryNo} {v : Word} (h : s.port.select = .entry n) :
    writeTableWord v s = writeEntryWord n s.port.offset.toNat v s := by
  simp only [writeTableWord, h]

theorem writeTableWord_profile {p : ProfileNo} {v : Word} (h : s.port.select = .profile p) :
    writeTableWord v s = writeProfileWord p s.port.offset.toNat v s := by
  simp only [writeTableWord, h]

theorem writeTableWord_lane {l : LaneNo} {v : Word} (h : s.port.select = .lane l) :
    writeTableWord v s = writeLaneWord l s.port.offset.toNat v s := by
  simp only [writeTableWord, h]

theorem writeTableWord_slot {k : SlotNo} {v : Word} (h : s.port.select = .slot k) :
    writeTableWord v s = writeSlotWord k s.port.offset.toNat v s := by
  simp only [writeTableWord, h]

/-- A write the owner ignores leaves its record as it is and sets ERR_INFO (R165, R171). -/
def Ignored (v : Word) (code : ErrCode) (s : State) : Prop :=
  tableDataWritten v s =
    { s with irq := withError s.irq code 0x34, port := (tableDataWritten v s).port }

theorem ignored_of_eq {v : Word} {code : ErrCode}
    (h : writeTableWord v { s with port := undriven s.port } = ignoredWrite code { s with port := undriven s.port }) :
    Ignored v code s :=
  tableDataWritten_eq (u := { s with irq := withError s.irq code 0x34 }) h

/-- Settles O48, by the table of the selected record and the class of the word. -/
theorem tableDataWriteObeysTheLocks : Obligations.TableDataWriteObeysTheLocks := by
  intro v s hs
  refine ⟨_, execTableDataWrite_settled v hs, tableDataWritten_port v s, fun n hn => ?_, fun p hp => ?_, fun l hl => ?_,
    fun k hk => ?_⟩
  · have hwrite := writeTableWord_entry (s := { s with port := undriven s.port }) (v := v) hn
    obtain ⟨hstore, hlocked, hread, hnone⟩ :=
      writeEntryWord_eq n s.port.offset.toNat v { s with port := undriven s.port }
    exact ⟨fun h hoff => tableDataWritten_eq (u := s.setEntry n _) (hwrite.trans (hstore h hoff)),
      fun h hoff => ignored_of_eq (hwrite.trans (hlocked h hoff)),
      fun h1 h2 => ignored_of_eq (hwrite.trans (hread h1 h2)),
      fun h => tableDataWritten_eq (hwrite.trans (hnone h))⟩
  · have hwrite := writeTableWord_profile (s := { s with port := undriven s.port }) (v := v) hp
    obtain ⟨hstore, hlocked, hread, hnone⟩ :=
      writeProfileWord_eq p s.port.offset.toNat v { s with port := undriven s.port }
    exact ⟨fun h huse => tableDataWritten_eq (u := s.setProfile p _) (hwrite.trans (hstore h huse)),
      fun h huse => ignored_of_eq (hwrite.trans (hlocked h huse)),
      fun h => ignored_of_eq (hwrite.trans (hread h)),
      fun h => tableDataWritten_eq (hwrite.trans (hnone h))⟩
  · have hwrite := writeTableWord_lane (s := { s with port := undriven s.port }) (v := v) hl
    obtain ⟨hstore, hlocked, hread, hnone⟩ :=
      writeLaneWord_eq l s.port.offset.toNat v { s with port := undriven s.port }
    exact ⟨fun h hheld => tableDataWritten_eq (u := s.setLane l _) (hwrite.trans (hstore h hheld)),
      fun h hheld => ignored_of_eq (hwrite.trans (hlocked h hheld)),
      fun h1 h2 => ignored_of_eq (hwrite.trans (hread h1 h2)),
      fun h => tableDataWritten_eq (hwrite.trans (hnone h))⟩
  · have hwrite := writeTableWord_slot (s := { s with port := undriven s.port }) (v := v) hk
    obtain ⟨hstore, hlocked, hread, hnone⟩ :=
      writeSlotWord_eq k s.port.offset.toNat v { s with port := undriven s.port }
    exact ⟨fun h hfree => tableDataWritten_eq (u := s.setSlot k _) (hwrite.trans (hstore h hfree)),
      fun h hfree => ignored_of_eq (hwrite.trans (hlocked h hfree)),
      fun h => ignored_of_eq (hwrite.trans (hread h)),
      fun h => tableDataWritten_eq (hwrite.trans (hnone h))⟩

end Sys2Proof.Machine
end

section
/-! SUPPORT. The record images: a configuration word reads back as it was written, and the other words keep their
values. -/

namespace Sys2Proof.Machine

variable {i j lo len n : Nat}

/-! ### Halves of 32-bit fields (R171) -/

theorem hiHalf_withHi (x : Long) (w : Word) : hiHalf (withHi x w) = w := by
  unfold hiHalf withHi
  exact BitVec.extractLsb'_append_eq_left

theorem loHalf_withHi (x : Long) (w : Word) : loHalf (withHi x w) = loHalf x := by
  unfold withHi
  exact BitVec.extractLsb'_append_eq_right

theorem hiHalf_withLo (x : Long) (w : Word) : hiHalf (withLo x w) = hiHalf x := by
  unfold withLo
  exact BitVec.extractLsb'_append_eq_left

theorem loHalf_withLo (x : Long) (w : Word) : loHalf (withLo x w) = w := by
  unfold loHalf withLo
  exact BitVec.extractLsb'_append_eq_right

theorem getHalf_setHalf_same (v : Vector Long n) (w : Word) (h : i / 2 < n) : getHalf (setHalf v i w) i = w := by
  unfold getHalf setHalf
  dsimp only
  rw [Vector.getElem?_setIfInBounds_self_of_lt h]
  by_cases hi : i % 2 = 0
  · simp only [hi, if_true, Option.getD_some, hiHalf_withHi]
  · simp only [hi, if_false, Option.getD_some, loHalf_withLo]

theorem getHalf_setHalf_of_ne (v : Vector Long n) (w : Word) (h : j ≠ i) : getHalf (setHalf v i w) j = getHalf v j := by
  unfold getHalf setHalf
  dsimp only
  by_cases hpair : i / 2 = j / 2
  · by_cases hn : i / 2 < n
    · rw [hpair] at hn ⊢
      rw [Vector.getElem?_setIfInBounds_self_of_lt hn]
      by_cases hi : i % 2 = 0
      · simp only [hi, show ¬j % 2 = 0 by omega, if_true, if_false, Option.getD_some, loHalf_withHi]
      · simp only [hi, show j % 2 = 0 by omega, if_true, if_false, Option.getD_some, hiHalf_withLo]
    · rw [Vector.setIfInBounds_eq_of_size_le (Nat.not_lt.1 hn)]
  · rw [Vector.getElem?_setIfInBounds_ne hpair]

/-! ### Fields put back in their places -/

theorem bitOf_and (x y : Word) (i : Nat) : bitOf (x &&& y) i = (bitOf x i && bitOf y i) := BitVec.getLsbD_and

theorem word_ext {x y : Word} (h : ∀ i, i < 16 → bitOf x i = bitOf y i) : x = y := BitVec.eq_of_getLsbD_eq h

/-- A field placed where it was read is the word with its other bits cleared. -/
theorem place_fieldOf (w : Word) (lo len : Nat) :
    place (fieldOf w lo len).toNat lo = w &&& place (2 ^ len - 1) lo :=
  word_ext fun i hi => by
    rw [bitOf_and, bitOf_place, bitOf_place, Nat.testBit_two_pow_sub_one, fieldOf, BitVec.testBit_toNat,
      BitVec.getLsbD_extractLsb']
    by_cases hlo : lo ≤ i
    · simp only [hi, hlo, decide_true, Bool.true_and, Nat.add_sub_cancel' hlo]
      exact Bool.and_comm _ _
    · simp [hlo]

theorem placeBit_bitOf (w : Word) (lo : Nat) : placeBit (bitOf w lo) lo = w &&& place 1 lo :=
  word_ext fun i hi => by
    rw [bitOf_and, bitOf_placeBit, show place 1 lo = placeBit true lo from rfl, bitOf_placeBit]
    by_cases h : i = lo
    · subst h; simp [hi]
    · simp [h]

theorem place_toNat_bitOf (w : Word) (lo : Nat) : place (bitOf w lo).toNat lo = w &&& place 1 lo := placeBit_bitOf w lo

theorem changeModeCode_changeModeOf (x : BitVec 2) : changeModeCode (changeModeOf x) = x.toNat := by
  revert x; decide

theorem bitOrderCode_bitOrderOf (b : Bool) : bitOrderCode (bitOrderOf b) = b.toNat := by cases b <;> rfl

theorem readyPolarityCode_readyPolarityOf (b : Bool) : readyPolarityCode (readyPolarityOf b) = b.toNat := by
  cases b <;> rfl

theorem and_allOnes (w : Word) : w &&& 0xFFFF = w := BitVec.and_allOnes

/-! ### The entry image (R173) -/

theorem entryConfigWord_write_header (w : Word) (c : EntryConfig) :
    entryConfigWord (writeEntryConfig 0x00 w c) 0x00 = w &&& 0x0FFF ∧
    entryConfigWord (writeEntryConfig 0x01 w c) 0x01 = w &&& 0x0377 ∧
    entryConfigWord (writeEntryConfig 0x02 w c) 0x02 = w &&& 0x3F3F := by
  refine ⟨?_, ?_, ?_⟩
  · simp only [entryConfigWord, writeEntryConfig, changeModeCode_changeModeOf, BitVec.val_toFin, place_fieldOf,
      placeBit_bitOf, ← BitVec.and_or_distrib_left]
    rfl
  · simp only [entryConfigWord, writeEntryConfig, place_fieldOf, ← BitVec.and_or_distrib_left]
    rfl
  · simp only [entryConfigWord, writeEntryConfig, place_fieldOf, ← BitVec.and_or_distrib_left]
    rfl

theorem entryConfigWord_write_whole (w : Word) (c : EntryConfig) (h3 : 3 ≤ i) (hi : i ≤ 0x19) :
    entryConfigWord (writeEntryConfig i w c) i = w := by
  by_cases hcmd : 6 ≤ i ∧ i ≤ 0xD
  · have hget := getHalf_setHalf_same (i := i - 6) c.cmd w (by omega)
    obtain ⟨_, _⟩ := hcmd
    interval_cases i <;> exact hget
  · interval_cases i <;>
      simp_all [entryConfigWord, writeEntryConfig, hiHalf_withHi, loHalf_withLo]

theorem entryConfigWord_write_same (w : Word) (c : EntryConfig) (hi : i ≤ 0x19) :
    entryConfigWord (writeEntryConfig i w c) i =
      w &&& (if i = 0x00 then 0x0FFF else if i = 0x01 then 0x0377 else if i = 0x02 then 0x3F3F else 0xFFFF) := by
  obtain ⟨h0, h1, h2⟩ := entryConfigWord_write_header w c
  by_cases h3 : i < 3
  · interval_cases i
    · exact h0
    · exact h1
    · exact h2
  · rw [if_neg (by omega), if_neg (by omega), if_neg (by omega), and_allOnes]
    exact entryConfigWord_write_whole w c (by omega) hi

/-- A write to one of the first six words leaves the other words as they are. -/
theorem entryConfigWord_write_header_other (w : Word) (c : EntryConfig) (hi : i < 6) (hj : j ≤ 0x19) (h : j ≠ i) :
    entryConfigWord (writeEntryConfig i w c) j = entryConfigWord c j := by
  rcases Nat.lt_or_gt_of_ne h with h | h <;> interval_cases i <;> interval_cases j <;> rfl

theorem writeEntryConfig_cmd (w : Word) (c : EntryConfig) (hi : i < 8) :
    writeEntryConfig (6 + i) w c = { c with cmd := setHalf c.cmd i w } := by
  interval_cases i <;> rfl

theorem entryConfigWord_cmd (c : EntryConfig) (hi : i < 8) : entryConfigWord c (6 + i) = getHalf c.cmd i := by
  interval_cases i <;> rfl

/-- The words beside CMD do not show it. -/
theorem entryConfigWord_other_cmd (v : Vector Long 4) (c : EntryConfig) (hj : j ≤ 0x19) (h : j < 6 ∨ 14 ≤ j) :
    entryConfigWord { c with cmd := v } j = entryConfigWord c j := by
  rcases h with h | h <;> interval_cases j <;> rfl

theorem entryConfigWord_write_cmd_other (w : Word) (c : EntryConfig) (hi : i < 8) (hj : j ≤ 0x19) (h : j ≠ 6 + i) :
    entryConfigWord (writeEntryConfig (6 + i) w c) j = entryConfigWord c j := by
  rw [writeEntryConfig_cmd w c hi]
  by_cases hcmd : 6 ≤ j ∧ j < 14
  · obtain ⟨k, rfl⟩ := Nat.exists_eq_add_of_le hcmd.1
    rw [entryConfigWord_cmd _ (by omega), entryConfigWord_cmd _ (by omega)]
    exact getHalf_setHalf_of_ne _ w (by omega)
  · exact entryConfigWord_other_cmd _ c hj (by omega)

/-- A write to one half of a long field leaves the other half, and the words of the other fields, as they are. -/
theorem entryConfigWord_write_long_other (w : Word) (c : EntryConfig) (h14 : 14 ≤ i) (hi : i ≤ 0x19) (hj : j ≤ 0x19)
    (h : j ≠ i) : entryConfigWord (writeEntryConfig i w c) j = entryConfigWord c j := by
  by_cases hpair : j / 2 = i / 2
  · obtain rfl : j = i / 2 * 2 + (1 - i % 2) := by omega
    interval_cases i <;> simp [entryConfigWord, writeEntryConfig, hiHalf_withLo, loHalf_withHi]
  · have hout : j < i / 2 * 2 ∨ i / 2 * 2 + 1 < j := by omega
    clear hpair h
    rcases hout with h | h <;> interval_cases i <;> interval_cases j <;> rfl

theorem entryConfigWord_write_other (w : Word) (c : EntryConfig) (hi : i ≤ 0x19) (hj : j ≤ 0x19) (h : j ≠ i) :
    entryConfigWord (writeEntryConfig i w c) j = entryConfigWord c j := by
  by_cases hheader : i < 6
  · exact entryConfigWord_write_header_other w c hheader hj h
  · by_cases hlong : 14 ≤ i
    · exact entryConfigWord_write_long_other w c hlong hi hj h
    · obtain ⟨k, rfl⟩ := Nat.exists_eq_add_of_le (Nat.not_lt.1 hheader)
      exact entryConfigWord_write_cmd_other w c (by omega) hj h

/-! ### The profile, lane and slot images (R173) -/

theorem profileWord_write_same (w : Word) (p : Profile) (hi : i ≤ 0x05) :
    profileWord (writeProfileConfig i w p) i =
      w &&&
        (if i = 0x00 then 0x037F else if i = 0x01 then 0x0FFF else if i = 0x02 then 0x1F1F
          else if i = 0x03 then 0x00FF else if i = 0x04 then 0x03FF else 0x000F) := by
  interval_cases i <;>
    (simp only [profileWord, writeProfileConfig, bitOrderCode_bitOrderOf, readyPolarityCode_readyPolarityOf,
      BitVec.val_toFin, place_fieldOf, placeBit_bitOf, place_toNat_bitOf, ← BitVec.and_or_distrib_left]
     rfl)

theorem profileWord_write_other (w : Word) (p : Profile) (hi : i ≤ 0x05) (hj : j ≤ 0x06) (h : j ≠ i) :
    profileWord (writeProfileConfig i w p) j = profileWord p j := by
  rcases Nat.lt_or_gt_of_ne h with h | h <;> interval_cases i <;> interval_cases j <;> rfl

/-- A MIN_DESELECT written as 0 reads back as 1 (R110). -/
theorem laneConfigWord_write (w : Word) (L : Lane) :
    laneConfigWord (writeLaneConfig w L) =
      (w &&& 0xFF0F) ||| (if w.extractLsb' 8 8 = 0 then 0x0100 else 0) := by
  have hlow : place (fieldOf w 0 4).toNat 0 = w &&& 0x000F := place_fieldOf w 0 4
  have hhigh : place (fieldOf w 8 8).toNat 8 = w &&& 0xFF00 := place_fieldOf w 8 8
  have hboth : w &&& 0xFF0F = (w &&& 0x000F) ||| (w &&& 0xFF00) := by
    rw [← BitVec.and_or_distrib_left]
    rfl
  simp only [laneConfigWord, writeLaneConfig]
  rw [hboth, ← hlow, ← hhigh]
  by_cases h : w.extractLsb' 8 8 = 0
  · have hf : fieldOf w 8 8 = 0 := h
    rw [if_pos h, if_pos hf, hf]
    simp [place]
  · have hf : ¬fieldOf w 8 8 = 0 := h
    rw [if_neg h, if_neg hf]
    exact BitVec.or_zero.symm

theorem slotWord_write_same (w : Word) (x : Slot) (hi : i = 0 ∨ (0x08 ≤ i ∧ i ≤ 0x17)) :
    slotWord { x with req := writeSlotRequest i w x.req } i = w &&& (if i = 0x00 then 0x1FFF else 0xFFFF) := by
  rcases hi with rfl | ⟨h8, h23⟩
  · simp only [slotWord, writeSlotRequest, if_true, BitVec.val_toFin, place_fieldOf, placeBit_bitOf,
      ← BitVec.and_or_distrib_left]
    rfl
  · unfold slotWord writeSlotRequest
    rw [if_neg (by omega), if_neg (by omega), if_neg (by omega), if_pos ⟨h8, h23⟩, if_neg (by omega), if_neg (by omega),
      and_allOnes]
    exact getHalf_setHalf_same _ w (by omega)

theorem slotWord_write_other (w : Word) (x : Slot) (hi : i = 0 ∨ (0x08 ≤ i ∧ i ≤ 0x17)) (h : j ≠ i) :
    slotWord { x with req := writeSlotRequest i w x.req } j = slotWord x j := by
  rcases hi with rfl | ⟨h8, _⟩
  · simp only [slotWord, writeSlotRequest, if_true, if_neg h]
  · have hreq : writeSlotRequest i w x.req = { x.req with out := setHalf x.req.out (i - 8) w } := if_neg (by omega)
    rw [hreq]
    by_cases hout : 8 ≤ j ∧ j ≤ 0x17
    · simp only [slotWord, getHalf_setHalf_of_ne x.req.out w (show j - 8 ≠ i - 8 by omega)]
    · simp only [slotWord, if_neg hout]

/-- Settles O49, image by image. -/
theorem configurationReadsBackAsWritten : Obligations.ConfigurationReadsBackAsWritten := by
  refine ⟨fun i j w c hi hj => ?_, fun i j w p hi hj => ?_, laneConfigWord_write, fun i j w x hi hj => ?_⟩
  · split
    · next h => subst h; exact entryConfigWord_write_same w c hi
    · next h => exact entryConfigWord_write_other w c hi hj h
  · split
    · next h => subst h; exact profileWord_write_same w p hi
    · next h => exact profileWord_write_other w p hi hj h
  · split
    · next h => subst h; exact slotWord_write_same w x hi
    · next h => exact slotWord_write_other w x hi h

end Sys2Proof.Machine
end

section
/-! SUPPORT. The numbered stream of bit periods, and the sample as its bits. -/

namespace Sys2Proof.Machine

/-! ### Sixteen bit periods (R97 to R99) -/

theorem streamLength_succ_last (line : LineProfile) (k n : Nat) :
    streamLength line k (n + 1) = streamLength line k n + bitLength line (k + n) := by
  induction n generalizing k with
  | zero => simp [streamLength]
  | succ n ih =>
    rw [streamLength, ih (k + 1), streamLength, show k + 1 + n = k + (n + 1) by omega]
    omega

theorem bitLength_add_sixteen (line : LineProfile) {k : Nat} (hk : 1 ≤ k) :
    bitLength line (k + 16) = bitLength line k := by
  have hpos : position (k + 16) = position k := by
    unfold position
    omega
  rw [bitLength, bitLength, hpos]

/-- A stretch is one CLKIN period more of `floor(p × FINE / 16)` (R99). -/
theorem toNat_stretchedAt {fine : Nat} (h : fine ≤ 15) (n : Nat) :
    n * fine / 16 + (stretchedAt fine (n + 1)).toNat = (n + 1) * fine / 16 := by
  have hstep : (n + 1) * fine = n * fine + fine := Nat.succ_mul n fine
  rw [stretchedAt, Nat.add_sub_cancel, hstep]
  by_cases hlt : n * fine / 16 < (n * fine + fine) / 16
  · simp only [hlt, decide_true, Bool.toNat_true]
    omega
  · simp only [hlt, decide_false, Bool.toNat_false]
    omega

theorem streamLength_first (line : LineProfile) {n : Nat} (hn : n ≤ 16) :
    streamLength line 1 n = n * (2 * halfPeriod line) + n * line.fine.toNat / 16 := by
  induction n with
  | zero => simp [streamLength]
  | succ n ih =>
    have hpos : position (1 + n) = n + 1 := by
      unfold position
      omega
    have hstretch := toNat_stretchedAt (fine := line.fine.toNat) (by omega) n
    rw [streamLength_succ_last, ih (by omega), bitLength, hpos, Nat.succ_mul n (2 * halfPeriod line), ← hstretch]
    omega

/-- The stream repeats after sixteen bit periods (R98). -/
theorem streamLength_sixteen (line : LineProfile) {k : Nat} (hk : 1 ≤ k) :
    streamLength line k 16 = streamLength line 1 16 := by
  induction k, hk using Nat.le_induction with
  | base => rfl
  | succ k hk ih =>
    have hfirst : streamLength line k (16 + 1) = bitLength line k + streamLength line (k + 1) 16 := rfl
    have hlast := streamLength_succ_last line k 16
    rw [bitLength_add_sixteen line hk] at hlast
    omega

/-- Settles O34. -/
theorem sixteenBitPeriodsLastTheSame : Obligations.SixteenBitPeriodsLastTheSame := by
  refine ⟨fun fine h1 h15 => ?_, fun p => ?_, fun line k hk => ?_⟩
  · simp only [stretchedAt, decide_eq_true_eq]
    omega
  · simp [stretchedAt]
  · rw [streamLength_sixteen line hk, streamLength_first line (Nat.le_refl 16), halfPeriod]
    omega

/-! ### The bits of a word and of the response string (R27, R28) -/

theorem bitsValue_append (bits : List Bool) (b : Bool) : bitsValue (bits ++ [b]) = 2 * bitsValue bits + b.toNat := by
  simp [bitsValue]

theorem testBit_bitsValue_reverse (bits : List Bool) (i : Nat) :
    (bitsValue bits.reverse).testBit i = (bits[i]?).getD false := by
  induction bits generalizing i with
  | nil => simp [bitsValue]
  | cons b bits ih =>
    rw [List.reverse_cons, bitsValue_append]
    cases i with
    | zero => cases b <;> simp [Nat.testBit_zero, Nat.add_mod]
    | succ i =>
      have hhalf : (2 * bitsValue bits.reverse + b.toNat) / 2 = bitsValue bits.reverse := by
        have := Bool.toNat_lt b
        omega
      rw [Nat.testBit_succ, hhalf, ih, List.getElem?_cons_succ]

theorem testBit_bitsValue (bits : List Bool) (i : Nat) :
    (bitsValue bits).testBit i = (decide (i < bits.length) && (bits[bits.length - 1 - i]?).getD false) := by
  have hrev := testBit_bitsValue_reverse bits.reverse i
  rw [List.reverse_reverse] at hrev
  rw [hrev]
  by_cases hi : i < bits.length
  · rw [List.getElem?_reverse hi]
    simp [hi]
  · simp [hi]

theorem getLsbD_ofNat_word (v : Nat) {i : Nat} (hi : i < 32) : (BitVec.ofNat 32 v).getLsbD i = v.testBit i := by
  rw [BitVec.getLsbD_ofNat, decide_eq_true hi, Bool.true_and]

theorem responseString_append (wordLen : Nat) (words : List Long) (w : Long) :
    responseString wordLen (words ++ [w]) = responseString wordLen words * 2 ^ wordLen + w.toNat := by
  simp [responseString]

/-! ### The sample (R30, R31) -/

variable {c : EntryConfig} {string : Nat}

theorem testBit_maskedField (c : EntryConfig) (string i : Nat) :
    (maskedField c string).testBit i =
      (decide (i < c.fieldWidth.toNat) && (string.testBit (c.fieldOffset.toNat + i) && c.mask.getLsbD i)) := by
  rw [maskedField, Nat.testBit_and, Nat.testBit_mod_two_pow, Nat.testBit_mod_two_pow, Nat.testBit_div_two_pow,
    BitVec.testBit_toNat, Nat.add_comm i]
  by_cases hi : i < c.fieldWidth.toNat <;> simp [hi]

theorem maskedField_lt (c : EntryConfig) (string : Nat) : maskedField c string < 2 ^ c.fieldWidth.toNat :=
  lt_of_le_of_lt Nat.and_le_left (Nat.mod_lt _ (Nat.two_pow_pos _))

/-- The masked field in its own width. -/
def fieldBits (c : EntryConfig) (string : Nat) : BitVec c.fieldWidth.toNat := BitVec.ofNat _ (maskedField c string)

theorem toNat_fieldBits (c : EntryConfig) (string : Nat) : (fieldBits c string).toNat = maskedField c string := by
  rw [fieldBits, BitVec.toNat_ofNat, Nat.mod_eq_of_lt (maskedField_lt c string)]

theorem getLsbD_fieldBits (c : EntryConfig) (string i : Nat) :
    (fieldBits c string).getLsbD i =
      (decide (i < c.fieldWidth.toNat) && (string.testBit (c.fieldOffset.toNat + i) && c.mask.getLsbD i)) := by
  rw [← BitVec.testBit_toNat, toNat_fieldBits, testBit_maskedField]

/-- The sample of an unsigned entry is the field widened with zeros. -/
theorem sampleOf_unsigned (h : c.signed = false) : sampleOf c string = (fieldBits c string).setWidth 32 := by
  rw [sampleOf, h, Bool.false_and, if_neg Bool.false_ne_true]
  exact BitVec.eq_of_toNat_eq (by rw [BitVec.toNat_setWidth, toNat_fieldBits, BitVec.toNat_ofNat])

/-- The sample of a signed entry is the field widened with its sign. -/
theorem sampleOf_signed (h : c.signed = true) : sampleOf c string = (fieldBits c string).signExtend 32 := by
  have hmsb : (fieldBits c string).msb = (maskedField c string).testBit (c.fieldWidth.toNat - 1) := by
    rw [BitVec.msb_eq_getLsbD_last, ← BitVec.testBit_toNat, toNat_fieldBits]
  rw [BitVec.signExtend, BitVec.toInt_eq_msb_cond, hmsb, toNat_fieldBits, sampleOf, h, Bool.true_and]
  split
  · rw [Nat.cast_pow, Nat.cast_ofNat]
  · exact (BitVec.ofInt_natCast ..).symm

/-- Settles O35. -/
theorem sampleStaysInItsRange : Obligations.SampleStaysInItsRange := by
  refine ⟨fun bits i _ hi => ⟨?_, ?_⟩, fun wordLen => ⟨rfl, responseString_append wordLen⟩,
    fun c string h1 h32 => ⟨fun i hi => ?_, fun hs => ?_, fun hs => ?_⟩⟩
  · exact (getLsbD_ofNat_word (bitsValue bits) hi).trans (testBit_bitsValue bits i)
  · exact (getLsbD_ofNat_word (bitsValue bits.reverse) hi).trans (testBit_bitsValue_reverse bits i)
  · have hlast : c.fieldWidth.toNat - 1 < c.fieldWidth.toNat := by omega
    cases hs : c.signed with
    | false =>
      rw [sampleOf_unsigned hs, BitVec.getLsbD_setWidth, getLsbD_fieldBits]
      by_cases hw : i < c.fieldWidth.toNat <;> simp [hi, hw]
    | true =>
      rw [sampleOf_signed hs, BitVec.getLsbD_signExtend, BitVec.msb_eq_getLsbD_last, getLsbD_fieldBits,
        getLsbD_fieldBits]
      by_cases hw : i < c.fieldWidth.toNat <;> simp [hi, hw, hlast]
  · rw [sampleOf_unsigned hs, BitVec.toNat_setWidth]
    exact lt_of_le_of_lt (Nat.mod_le _ _) (fieldBits c string).isLt
  · rw [sampleOf_signed hs, BitVec.toInt_signExtend_of_le h32]
    exact ⟨BitVec.le_toInt _, BitVec.toInt_lt⟩

end Sys2Proof.Machine
end

section
/-! SUPPORT. The decode of the host cycles, and the part right after reset. -/

/-! ### Host cycles and their rows (R157, R167) -/

namespace Sys2Proof

theorem decodeRead_some {a : Addr} {c : Instr} (h : decodeRead a = some c) :
    (a = 0x0A ∧ c = .timeHiRead) ∨ (a = 0x0C ∧ c = .headInfoRead) ∨ (a = 0x1A ∧ c = .tableDataRead) := by
  have hall : ∀ b : Addr, decodeRead b = none ∨ (b = 0x0A ∧ decodeRead b = some .timeHiRead) ∨
      (b = 0x0C ∧ decodeRead b = some .headInfoRead) ∨ (b = 0x1A ∧ decodeRead b = some .tableDataRead) := by
    decide
  rcases hall a with ha | ⟨ha, hc⟩ | ⟨ha, hc⟩ | ⟨ha, hc⟩
  · rw [ha] at h; cases h
  · exact .inl ⟨ha, Option.some.inj (h.symm.trans hc)⟩
  · exact .inr (.inl ⟨ha, Option.some.inj (h.symm.trans hc)⟩)
  · exact .inr (.inr ⟨ha, Option.some.inj (h.symm.trans hc)⟩)

/-- A register is one a write has no effect on, COMMAND, or one of the nine with a row of their own. -/
theorem addr_cases (a : Addr) :
    a ∈ readOnlyAddrs ++ unassignedAddrs ∨ a = 0x03 ∨
      a ∈ ([0x05, 0x06, 0x07, 0x08, 0x09, 0x17, 0x18, 0x19, 0x1A] : List Addr) := by
  revert a; decide

theorem commandOf_spells (v : Word) :
    (commandOf v).wellFormed = true ∧ encodeCycle (commandOf v) = some (.write 0x03 v) := by
  rcases commandOf_cases v with ⟨hrow, hcode⟩ | ⟨hcycle, _, _, hwf⟩
  · rw [hrow]
    exact ⟨by simpa [Instr.wellFormed] using hcode, rfl⟩
  · exact ⟨hwf, hcycle⟩

theorem decodeWrite_spells (a : Addr) (v : Word) :
    (decodeWrite a v).wellFormed = true ∧ encodeCycle (decodeWrite a v) = some (.write a v) := by
  rcases addr_cases a with ha | rfl | ha
  · rw [(decodeWrite_registerWrite a v).2 ha]
    exact ⟨by simpa [Instr.wellFormed] using ha, rfl⟩
  · exact commandOf_spells v
  · simp only [List.mem_cons, List.not_mem_nil, or_false] at ha
    rcases ha with rfl | rfl | rfl | rfl | rfl | rfl | rfl | rfl | rfl <;> exact ⟨rfl, rfl⟩

/-- Settles O52. -/
theorem hostCyclesDecodeToTheirRow : Obligations.HostCyclesDecodeToTheirRow := by
  refine ⟨fun b c h => ?_, fun a v => ⟨_, rfl⟩⟩
  cases b with
  | read a =>
    rcases decodeRead_some h with ⟨rfl, rfl⟩ | ⟨rfl, rfl⟩ | ⟨rfl, rfl⟩
    · exact ⟨rfl, rfl⟩
    · exact ⟨rfl, rfl⟩
    · exact ⟨rfl, rfl⟩
  | write a v =>
    cases h
    exact decodeWrite_spells a v

end Sys2Proof

/-! ### Right after reset (R174) -/

namespace Sys2Proof.Machine

theorem entry_reset (n : EntryNo) : State.reset.entry n = ⟨EntryConfig.powerOn, EntryRun.powerOn⟩ := by
  simp [State.entry, State.reset, State.powerOn]

theorem profile_reset (p : ProfileNo) : State.reset.profile p = Profile.powerOn := by
  simp [State.profile, State.reset, State.powerOn]

theorem lane_reset (l : LaneNo) : State.reset.lane l = Lane.powerOn := by
  simp [State.lane, State.reset, State.powerOn]

theorem slot_reset (k : SlotNo) : State.reset.slot k = Slot.powerOn := by
  simp [State.slot, State.reset, State.powerOn]

theorem laneLaw_reset : LaneLaw State.reset := by
  intro l
  rw [lane_reset]
  refine ⟨by decide, by decide, by decide, fun _ => rfl, fun x hx => ?_, by decide⟩
  cases hx

theorem counterLaw_reset : CounterLaw State.reset := by
  intro n
  rw [entry_reset]
  exact ⟨by decide, by decide, by decide⟩

theorem anyPending_reset : anyPending State.reset = false := by
  rw [Bool.eq_false_iff, ne_eq, anyPending_iff]
  rintro ⟨n, hn⟩
  rw [entry_reset] at hn
  exact hn rfl

theorem statusWord_reset : statusWord State.reset = 0 := by
  rw [statusWord, anyPending_reset]
  rfl

theorem directStateWord_reset : directStateWord State.reset = 0 := by
  rw [directStateWord_eq, slot_reset, slot_reset, slot_reset, slot_reset]
  rfl

theorem laneStateWord_reset : laneStateWord State.reset = 0x2222 := by
  rw [laneStateWord_eq]
  simp only [lane_reset]
  rfl

theorem readRegister_reset :
    ∀ x ∈ ([(0x00, 0x2460), (0x01, 0x0003), (0x02, 0), (0x03, 0), (0x04, 0), (0x05, 0), (0x06, 0), (0x07, 0x0001),
      (0x08, 0), (0x09, 0x0064), (0x0A, 0), (0x0B, 0), (0x0C, 0), (0x0D, 0), (0x0E, 0), (0x0F, 0), (0x10, 0),
      (0x11, 0), (0x12, 0), (0x13, 0), (0x14, 0), (0x15, 0), (0x16, 0), (0x17, 0), (0x18, 0), (0x19, 0),
      (0x1B, 0), (0x1C, 0), (0x1D, 0x2222), (0x1E, 0), (0x1F, 0)] : List (Addr × Word)),
    readRegister State.reset x.1 = some x.2 := by
  have hread := readRegister_settled (s := State.reset) ⟨rfl, rfl⟩
  have hstatus : registerValue State.reset (regAt 0x02) = 0 := statusWord_reset
  have hdirect : registerValue State.reset (regAt 0x1C) = 0 := directStateWord_reset
  have hlane : registerValue State.reset (regAt 0x1D) = 0x2222 := laneStateWord_reset
  simp only [List.forall_mem_cons, hread, hstatus, hdirect, hlane]
  exact ⟨rfl, rfl, trivial, rfl, rfl, rfl, rfl, rfl, rfl, rfl, rfl, rfl, rfl, rfl, rfl, rfl, rfl, rfl, rfl, rfl, rfl,
    rfl, rfl, rfl, rfl, rfl, rfl, trivial, trivial, rfl, rfl, fun x hx => absurd hx List.not_mem_nil⟩

/-- Settles O53: the register values first, then the laws one by one. -/
theorem registersAndLawsRightAfterReset : Obligations.RegistersAndLawsRightAfterReset := by
  have hentry : ∀ n, (State.reset.entry n).run = EntryRun.powerOn := fun n => by rw [entry_reset]
  have hoff : ∀ n, (State.reset.entry n).run.state = .off := fun n => by rw [hentry]; rfl
  have hfree : ∀ k, (State.reset.slot k).state = .free := fun k => by rw [slot_reset]; rfl
  have huse : ∀ p, (State.reset.profile p).useCount = 0 := fun p => by rw [profile_reset]; rfl
  refine ⟨readRegister_reset, QueueLaw.of_empty rfl rfl, PendingLaw.of_none (by decide) fun n => ?_, laneLaw_reset,
    UseLaw.of_none huse hoff hfree, fun p hp => absurd (huse p) hp.ne', counterLaw_reset,
    MembershipLaw.of_none (fun l => ?_) (fun n => ?_) rfl fun k => ?_, OwnerLaw.of_none hoff hfree fun l => ?_,
    FlightLaw.of_none rfl (fun n => ?_) fun l => ?_⟩
  · rw [hentry]; exact ⟨rfl, rfl⟩
  · rw [lane_reset]; rfl
  · rw [hoff]; decide
  · rw [hfree]; decide
  · rw [lane_reset]; rfl
  · rw [hoff]; decide
  · rw [lane_reset]; decide

end Sys2Proof.Machine
end
